-- ==== Sys2Proof/Word.lean ====
section
/-! DEFINITION. The word types of the block: command, data and response words of 32 bits, bytes of 8. -/

namespace Sys2Proof

/-- A byte of WBUF, TXBUF or of the wire (20_memory.md R60). -/
abbrev Byte := BitVec 8

/-- A word of the command port, the response port or the status port (30_encoding.md R80). -/
abbrev Word := BitVec 32

end Sys2Proof
end

