-- ==== Sys2Proof/Syntax.lean ====
section
/-! DEFINITION. The five host commands (30_encoding.md R82), one constructor per row of spec/opcode_table.json. -/

namespace Sys2Proof

/-- A host command. Operands are the unsigned counts of 30_encoding.md R85 (log 17). EXEC_TXN's LEN data words are not
operands of the CMD word: they follow it at the command port and are accepted in LOAD (30_encoding.md R84, R90). -/
inductive Instr where
  /-- INIT_LINE (40_line_controller.md R100). -/
  | initLine
  /-- EXEC_TXN with the outbound length LEN in bytes (41_transaction.md R130). -/
  | execTxn (len : Nat)
  /-- READ_BYTE at the bit offset OFF (42_buffer.md R175). -/
  | readByte (off : Nat)
  /-- READ_BYTES of N bytes from the bit offset OFF (42_buffer.md R176). -/
  | readBytes (off n : Nat)
  /-- DETECT (43_classifier.md R192). -/
  | detect
  deriving DecidableEq, Repr

/-- Why a CMD word is no command (30_encoding.md R88, 60_exceptions.md R213 steps 1 and 2). -/
inductive Reject where
  /-- OP is 0x0 or 0x6..0xF. -/
  | reservedOpcode
  /-- A bit outside OP and the opcode's fields is 1. -/
  | reservedField
  deriving DecidableEq, Repr

end Sys2Proof
end

