-- ==== Sys2Proof/WellFormed.lean ====
section
/-! DEFINITION. Which terms of Instr are commands: each operand fits its field (30_encoding.md R81, R91). -/

namespace Sys2Proof

/-- LEN and OFF fit 12 bits and N fits 8 (30_encoding.md R81, R91). What a state or a parameter decides (TX_CAP,
alignment, range, validity) is no part of it: the block checks that (60_exceptions.md R213). -/
def Instr.wf : Instr → Bool
  | .initLine => true
  | .execTxn len => len < 4096
  | .readByte off => off < 4096
  | .readBytes off n => off < 4096 && n < 256
  | .detect => true

end Sys2Proof
end

