-- ==== Sys2Proof/Decode.lean ====
section
/-! DEFINITION. The CMD word format (30_encoding.md R81-R83): the decoder, total on 32-bit words and rejecting by name,
and the encoder. -/

namespace Sys2Proof

/-- OP, bits [3:0] of a CMD word (30_encoding.md R81). -/
def fieldOp (w : Word) : BitVec 4 := w.extractLsb' 0 4

/-- A, bits [15:4] of a CMD word (30_encoding.md R81). -/
def fieldA (w : Word) : BitVec 12 := w.extractLsb' 4 12

/-- B, bits [23:16] of a CMD word (30_encoding.md R81). -/
def fieldB (w : Word) : BitVec 8 := w.extractLsb' 16 8

/-- RSV, bits [31:24] of a CMD word (30_encoding.md R81). -/
def fieldRsv (w : Word) : BitVec 8 := w.extractLsb' 24 8

/-- A CMD word from its four fields, RSV leftmost (30_encoding.md R81). -/
def packCmd (rsv b : BitVec 8) (a : BitVec 12) (op : BitVec 4) : Word :=
  (rsv ++ b ++ a ++ op : BitVec (8 + 8 + 12 + 4))

/-- Steps 1 and 2 of CHECK_CMD (60_exceptions.md R213): the opcode must be defined (R82) and every bit outside OP and the
opcode's fields must be 0 (R83). R213 writes `~mask` for the bits outside the fields, R83's table marks with `mask` the
fixed bits: the prose of R213 is followed (log 13). -/
def decode (w : Word) : Except Reject Instr :=
  match (fieldOp w).toNat with
  | 1 => if fieldA w = 0#12 ∧ fieldB w = 0#8 ∧ fieldRsv w = 0#8 then .ok .initLine else .error .reservedField
  | 2 => if fieldB w = 0#8 ∧ fieldRsv w = 0#8 then .ok (.execTxn (fieldA w).toNat) else .error .reservedField
  | 3 => if fieldB w = 0#8 ∧ fieldRsv w = 0#8 then .ok (.readByte (fieldA w).toNat) else .error .reservedField
  | 4 => if fieldRsv w = 0#8 then .ok (.readBytes (fieldA w).toNat (fieldB w).toNat) else .error .reservedField
  | 5 => if fieldA w = 0#12 ∧ fieldB w = 0#8 ∧ fieldRsv w = 0#8 then .ok .detect else .error .reservedField
  | _ => .error .reservedOpcode

/-- The CMD word of a command (30_encoding.md R83, R91). An operand that does not fit its field is cut to it: of an
ill-formed term the word means nothing (log 17). -/
def encode : Instr → Word
  | .initLine => packCmd 0#8 0#8 0#12 1#4
  | .execTxn len => packCmd 0#8 0#8 (BitVec.ofNat 12 len) 2#4
  | .readByte off => packCmd 0#8 0#8 (BitVec.ofNat 12 off) 3#4
  | .readBytes off n => packCmd 0#8 (BitVec.ofNat 8 n) (BitVec.ofNat 12 off) 4#4
  | .detect => packCmd 0#8 0#8 0#12 5#4

/-- The match column of 30_encoding.md R83 and spec/opcode_table.json. -/
def matchWord : Instr → Word
  | .initLine => 0x00000001#32
  | .execTxn _ => 0x00000002#32
  | .readByte _ => 0x00000003#32
  | .readBytes _ _ => 0x00000004#32
  | .detect => 0x00000005#32

/-- The mask column of 30_encoding.md R83 and spec/opcode_table.json: the bits a command fixes. -/
def maskWord : Instr → Word
  | .initLine => 0xFFFFFFFF#32
  | .execTxn _ => 0xFFFF000F#32
  | .readByte _ => 0xFFFF000F#32
  | .readBytes _ _ => 0xFF00000F#32
  | .detect => 0xFFFFFFFF#32

/-- The 32-bit command word of the table's `nbits` bits `w`, the bits above `nbits` zero. -/
def tableWord (nbits w : Nat) : Word := BitVec.ofNat 32 (w % 2 ^ nbits)

/-- The command the decoder reads from a word numbered as spec/opcode_table.json numbers it. -/
def decodeTableWord (nbits w : Nat) : Option Instr :=
  match decode (tableWord nbits w) with
  | .ok i => some i
  | .error _ => none

/-- Bits [31:8] of a DATA word, which must be 0 (30_encoding.md R84). -/
def dataRsv (d : Word) : BitVec 24 := d.extractLsb' 8 24

/-- The outbound byte of a DATA word, bits [7:0] (30_encoding.md R84). -/
def dataByte (d : Word) : Byte := d.extractLsb' 0 8

end Sys2Proof
end

