-- ==== Sys2Proof/Config.lean ====
section
/-! DEFINITION. The implementation parameters (00_scope.md R10, R11), their constraints, and the free values:
what the spec calls a draw, as constants without a body. -/

namespace Sys2Proof

/-- The parameters the document leaves open (00_scope.md R11), each with the spec's default. The block holds them
constant from reset (10_state.md R42); State carries them so that statements range over them (log 2).
The defaults of `idCmd` and of the bit cells are general knowledge in the spec itself (log 21). -/
structure Config where
  /-- TX_CAP: the outbound capacity in bytes. -/
  txCap : Nat := 40
  /-- ID_CMD: the "get identity" command byte. -/
  idCmd : Byte := 0x00#8
  /-- FORCE_KB: the bench-test override (43_classifier.md R193). -/
  forceKb : Bool := false
  /-- TICK_NS: the tick period in nanoseconds; no rule of the step reads it (log 27). -/
  tickNs : Nat := 250
  /-- T0_LOW: low ticks of a transmitted 0 bit. -/
  t0Low : Nat := 12
  /-- T0_HIGH: released ticks of a transmitted 0 bit. -/
  t0High : Nat := 4
  /-- T1_LOW: low ticks of a transmitted 1 bit. -/
  t1Low : Nat := 4
  /-- T1_HIGH: released ticks of a transmitted 1 bit. -/
  t1High : Nat := 12
  /-- TSTOP_LOW: low ticks of the host stop condition. -/
  tstopLow : Nat := 4
  /-- T_SAMPLE: ticks from a received falling edge to the sample. -/
  tSample : Nat := 8
  /-- T_GAP: ticks after a falling edge with no new edge that end the reply. -/
  tGap : Nat := 24
  /-- T_RX_TIMEOUT: ticks after the stop condition with no falling edge that make a timeout. -/
  tRxTimeout : Nat := 400
  /-- T_POST: the post delay in ticks. -/
  tPost : Nat := 320
  /-- RX_FLAGS: the `flags` argument of `receive bytes`, read by no rule (41_transaction.md R154, log 22). -/
  rxFlags : Nat := 0
  deriving DecidableEq, Repr

/-- BUF_CAP (00_scope.md R10). -/
def Config.bufCap : Nat := 40

/-- ID_REPLY_LEN (00_scope.md R10). -/
def Config.idReplyLen : Nat := 3

/-- T_POST_US (00_scope.md R10). -/
def Config.tPostUs : Nat := 80

/-- T_POST_MIN_US (00_scope.md R10). -/
def Config.tPostMinUs : Nat := 60

/-- RX_ERR (00_scope.md R10, 30_encoding.md R95). -/
def Config.rxErr : Byte := 0xFF#8

/-- NBITS_MAX = 8 * BUF_CAP + 2 (41_transaction.md R138, 00_scope.md R12). -/
def Config.nbitsMax : Nat := 8 * Config.bufCap + 2

/-- The default of T_POST at a tick period: ceil(T_POST_US * 1000 / TICK_NS) (00_scope.md R11). -/
def Config.tPostDefault (tickNs : Nat) : Nat := (Config.tPostUs * 1000 + tickNs - 1) / tickNs

/-- The constraints of 00_scope.md R11 and the bound 65 535 of 10_state.md R37 on every parameter in ticks. -/
def Config.wf (c : Config) : Bool :=
  1 ≤ c.txCap && c.txCap ≤ 255 && 0 < c.tickNs
  && 1 ≤ c.t0Low && c.t0Low ≤ 65535 && 1 ≤ c.t0High && c.t0High ≤ 65535
  && 1 ≤ c.t1Low && c.t1Low ≤ 65535 && 1 ≤ c.t1High && c.t1High ≤ 65535
  && 1 ≤ c.tstopLow && c.tstopLow ≤ 65535
  && 1 ≤ c.tSample && c.tSample < c.tGap && c.tGap ≤ 65535
  && 1 ≤ c.tRxTimeout && c.tRxTimeout ≤ 65535
  && Config.tPostMinUs * 1000 ≤ c.tPost * c.tickNs && c.tPost ≤ 65535

/-- The bus device's drive dev_low in a tick its script does not cover: a free value (40_line_controller.md R103, log 7). -/
opaque Config.freeDevLow : Nat → Bool

/-- The line level in a tick in which the block drives high and the device low: a free value (40_line_controller.md R103, log 8). -/
opaque Config.freeContention : Nat → Bool

/-- DIR after a reset tick: a free value (10_state.md R50, R51, log 4). -/
opaque Config.freeDir : Nat → Bool

/-- OUT after a reset tick: a free value (10_state.md R50, R51, log 4). -/
opaque Config.freeOut : Nat → Bool

/-- DBG_DIR after a reset tick: a free value (10_state.md R50, R51, log 4). -/
opaque Config.freeDbgDir : Nat → Bool

/-- DBG_OUT after a reset tick: a free value (10_state.md R50, R51, log 4). -/
opaque Config.freeDbgOut : Nat → Bool

/-- SAVED_IE after a reset tick: a free value (10_state.md R50, R51, log 4). -/
opaque Config.freeSavedIe : Nat → Bool

/-- WBUF's bytes after a reset tick, by tick and index: free values (10_state.md R50, R51, log 4). -/
opaque Config.freeWbuf : Nat → Nat → Byte

/-- TXBUF's bytes after a reset tick, by tick and index: free values (10_state.md R50, R51, log 4). -/
opaque Config.freeTxbuf : Nat → Nat → Byte

end Sys2Proof
end

