-- ==== Sys2Proof/Machine/Memory.lean ====
section
/-! DEFINITION. The block's byte arrays (20_memory.md R60): a list of (address, byte) pairs in one canonical form, and its
operations. -/

namespace Sys2Proof.Machine

/-- A byte array: addresses strictly rising, no entry equal to what an unlisted address reads as. -/
abbrev Memory := List Host.Cell

/-- What a byte that nothing has written reads as. The spec calls it a draw (10_state.md R50); no rule returns it to the
host (10_state.md R51). DESIGN CHOICE, unsafe (log 6). -/
def Memory.unlisted : Byte := 0#8

/-- `WBUF[i]`, `TXBUF[i]` (00_scope.md R14). -/
def Memory.read : Memory → Nat → Byte
  | [], _ => Memory.unlisted
  | (b, v) :: m, a => if a = b then v else Memory.read m a

/-- `MemWrite(·, a, 1, v)` (00_scope.md R14): the byte at `a` becomes `v`, in canonical form. -/
def Memory.write : Memory → Nat → Byte → Memory
  | [], a, v => if v = Memory.unlisted then [] else [(a, v)]
  | (b, w) :: m, a, v =>
    if a < b then
      if v = Memory.unlisted then (b, w) :: m else (a, v) :: (b, w) :: m
    else if a = b then
      if v = Memory.unlisted then m else (a, v) :: m
    else (b, w) :: Memory.write m a v

/-- The bytes `vs` written from address `a` up, lowest first. -/
def Memory.writeList : Memory → Nat → List Byte → Memory
  | m, _, [] => m
  | m, a, v :: vs => Memory.writeList (Memory.write m a v) (a + 1) vs

/-- `MemRead(·, a, n)`, lowest index first (00_scope.md R14). -/
def Memory.readList (m : Memory) (a : Nat) : Nat → List Byte
  | 0 => []
  | n + 1 => Memory.read m a :: Memory.readList m (a + 1) n

/-- The array of `n` bytes whose byte at `a` is `f a`. -/
def Memory.fill (f : Nat → Byte) : Nat → Memory
  | 0 => []
  | n + 1 => Memory.write (Memory.fill f n) n (f n)

/-- The entries are in canonical form and lie in `lo .. hi - 1`. -/
def Memory.wfBetween (hi : Nat) : Nat → Memory → Bool
  | _, [] => true
  | lo, (a, v) :: m => lo ≤ a && a < hi && v != Memory.unlisted && Memory.wfBetween hi (a + 1) m

/-- The canonical form of an array of `cap` bytes. -/
def Memory.wf (cap : Nat) (m : Memory) : Bool := Memory.wfBetween cap 0 m

end Sys2Proof.Machine
end

