-- ==== Sys2Proof/Machine/State.lean ====
section
/-! DEFINITION. The state of the block, of the host and of the bus device (00_scope.md R7, 10_state.md R20), the reasons to
stop, and the state after reset. -/

namespace Sys2Proof.Machine

/-- STATE (10_state.md R22). Codes 9-14 are never entered and have no constructor (log 24). -/
inductive Ctl where
  | idle | load | tx | txStop | rxWait | rxBit | rxGap | postDelay | classify | faulted
  deriving DecidableEq, Repr

/-- MODE: which command started the transaction in progress (10_state.md R23). -/
inductive TxnMode where
  | execTxn | detect
  deriving DecidableEq, Repr

/-- DIAG: the last transaction's outcome (10_state.md R30). Code 3 is never written (log 24). -/
inductive Diag where
  | ok | timeout | lineError
  deriving DecidableEq, Repr

/-- FAULT_CAUSE (60_exceptions.md R211). Codes 8-15 are never written (log 24). -/
inductive FaultCause where
  | none | reservedOpcode | reservedField | notInitialized | txLen | misalignedOffset | outOfRange | staleRead
  deriving DecidableEq, Repr

/-- PHASE: the half of the bit cell (10_state.md R35). -/
inductive Phase where
  | low | high
  deriving DecidableEq, Repr

/-- The controller identity (30_encoding.md R87). No register holds it (10_state.md R20). -/
inductive ClassCode where
  | absent | n64 | gc | gcKeyboard | unknown
  deriving DecidableEq, Repr

/-- The bus device (00_scope.md R7, 40_line_controller.md R103, log 7): no device, or one whose drive dev_low is listed for
the coming ticks, this tick's first, and a free value in every tick after the list. -/
inductive BusDevice where
  | absent
  | present (drives : List Bool)
  deriving DecidableEq, Repr

/-- The host's moves to come and what it has received (00_scope.md R9, log 9, 23). -/
structure HostSide where
  /-- The command port's inputs, this tick's first: `some w` is a word the host holds until it is accepted, `none` a
  tick with cmd_valid = 0 (10_state.md R43). After the list the host sends nothing. -/
  cmd : List (Option Word)
  /-- rsp_ready in the coming ticks with rsp_valid = 1, the next first (10_state.md R44). -/
  rspReady : List Bool
  /-- rsp_ready in every such tick after the list. -/
  rspRest : Bool
  /-- The host's own writes of IE in the coming ticks outside transaction phases, the next first (10_state.md R53). -/
  ieWrite : List (Option Bool)
  /-- The response words the host has taken, oldest first. -/
  received : List Word
  deriving DecidableEq, Repr

/-- All state there is (10_state.md R20), the parameters (00_scope.md R11, log 2), and the outside. -/
structure State where
  /-- The parameters, constant while the block runs (10_state.md R42). -/
  cfg : Config
  /-- STATE (10_state.md R22). -/
  ctl : Ctl
  /-- MODE (10_state.md R23). -/
  mode : TxnMode
  /-- LINE_INIT (10_state.md R26). -/
  lineInit : Bool
  /-- BUF_VALID (10_state.md R27). -/
  bufValid : Bool
  /-- RXCOUNT (10_state.md R29). -/
  rxcount : BitVec 8
  /-- DIAG (10_state.md R30). -/
  diag : Diag
  /-- FAULT_CAUSE (10_state.md R31). -/
  faultCause : FaultCause
  /-- FAULT_INFO (10_state.md R32). -/
  faultInfo : Word
  /-- DIR: true = output (10_state.md R33). -/
  dir : Bool
  /-- OUT: the data pin's output level (10_state.md R33). -/
  out : Bool
  /-- DBG_DIR: true = output (10_state.md R34). -/
  dbgDir : Bool
  /-- DBG_OUT: the debug pin's output level (10_state.md R34). -/
  dbgOut : Bool
  /-- TXLEN (10_state.md R35). -/
  txlen : BitVec 8
  /-- LOADCNT (10_state.md R35). -/
  loadcnt : BitVec 8
  /-- TXIDX (10_state.md R35). -/
  txidx : BitVec 8
  /-- BITIDX (10_state.md R35). -/
  bitidx : BitVec 3
  /-- PHASE (10_state.md R35). -/
  phase : Phase
  /-- TXBUF, TX_CAP bytes (10_state.md R41). -/
  txbuf : Memory
  /-- NBITS (10_state.md R36). -/
  nbits : BitVec 16
  /-- SHIFT (10_state.md R36). -/
  shift : Byte
  /-- PREV: the line level of the previous tick (10_state.md R36). -/
  prev : Bool
  /-- WBUF, BUF_CAP bytes (10_state.md R40). -/
  wbuf : Memory
  /-- TIMER (10_state.md R37). -/
  timer : BitVec 16
  /-- SAVED_IE (10_state.md R38). -/
  savedIe : Bool
  /-- RSPQ, oldest word first (10_state.md R46). -/
  rspq : List Word
  /-- IE, the host's interrupt-enable bit (10_state.md R39). -/
  ie : Bool
  /-- The reset input rst in the coming ticks, this tick's first; 0 after the list (70_reset_and_hazards.md R240, log 9). -/
  rst : List Bool
  /-- The host. -/
  host : HostSide
  /-- The bus device. -/
  bus : BusDevice
  /-- The model's own count of ticks, from which free values are drawn (log 23). -/
  tick : Nat
  deriving DecidableEq, Repr

/-- Why the model stops. The spec's faults are no stops: taking one is a next state (60_exceptions.md R214, log 15). -/
inductive Fault where
  /-- TXBUF accessed at an index that is not below TX_CAP (20_memory.md R60). Raised by LOAD_WORD, TX_TICK and DETECT's
  write of byte 0, in states or with parameters that no run of a well-formed configuration reaches (log 16). Safe. -/
  | outsideTxbuf
  deriving DecidableEq, Repr

/-- Why the model gives an instruction no meaning. -/
inductive Refusal where
  /-- An instruction without a meaning, rejected by name by exec's arm. No arm does: every command has its meaning. Safe. -/
  | notModelled (mnemonic : String)
  deriving DecidableEq, Repr

/-- What a step or a meaning answers. -/
abbrev Result := Host.Outcome State Fault Refusal

/-- The state right after the first reset (10_state.md R50, 70_reset_and_hazards.md R240), with the default parameters.
DIR, OUT, DBG_DIR, DBG_OUT, SAVED_IE, WBUF and TXBUF, which the spec leaves to a draw, carry a named value (DESIGN CHOICE,
log 3; a reset tick inside a run draws them freely, log 4); IE is 1 (DESIGN CHOICE, log 5). The host has no move to make and
drains its responses, and the device is present and free (log 7, 9). -/
def State.reset : State where
  cfg := {}
  ctl := .idle
  mode := .execTxn
  lineInit := false
  bufValid := false
  rxcount := 0#8
  diag := .ok
  faultCause := .none
  faultInfo := 0#32
  dir := false
  out := false
  dbgDir := false
  dbgOut := false
  txlen := 0#8
  loadcnt := 0#8
  txidx := 0#8
  bitidx := 7#3
  phase := .low
  txbuf := []
  nbits := 0#16
  shift := 0#8
  prev := true
  wbuf := []
  timer := 0#16
  savedIe := false
  rspq := []
  ie := true
  rst := []
  host := { cmd := [], rspReady := [], rspRest := true, ieWrite := [], received := [] }
  bus := .present []
  tick := 0

end Sys2Proof.Machine
end

