-- ==== Sys2Proof/Machine/Flags.lean ====
section
/-! DEFINITION. Register codes, the computed flags and the status port (10_state.md R22-R32, R45). -/

namespace Sys2Proof.Machine

/-- The code of STATE (10_state.md R22). -/
def ctlCode : Ctl → BitVec 4
  | .idle => 0#4
  | .load => 1#4
  | .tx => 2#4
  | .txStop => 3#4
  | .rxWait => 4#4
  | .rxBit => 5#4
  | .rxGap => 6#4
  | .postDelay => 7#4
  | .classify => 8#4
  | .faulted => 15#4

/-- The states in which IE is masked and the host writes no IE (10_state.md R22, R53). -/
def txnPhase : Ctl → Bool
  | .tx | .txStop | .rxWait | .rxBit | .rxGap => true
  | .idle | .load | .postDelay | .classify | .faulted => false

/-- The states in which the receiver listens (40_line_controller.md R110). -/
def rxPhase : Ctl → Bool
  | .rxWait | .rxBit | .rxGap => true
  | .idle | .load | .tx | .txStop | .postDelay | .classify | .faulted => false

/-- The code of MODE (10_state.md R23). -/
def modeCode : TxnMode → BitVec 1
  | .execTxn => 0#1
  | .detect => 1#1

/-- The code of DIAG (10_state.md R30). -/
def diagCode : Diag → BitVec 2
  | .ok => 0#2
  | .timeout => 1#2
  | .lineError => 2#2

/-- The code of FAULT_CAUSE (60_exceptions.md R211). -/
def causeCode : FaultCause → BitVec 4
  | .none => 0#4
  | .reservedOpcode => 1#4
  | .reservedField => 2#4
  | .notInitialized => 3#4
  | .txLen => 4#4
  | .misalignedOffset => 5#4
  | .outOfRange => 6#4
  | .staleRead => 7#4

/-- The class codes (30_encoding.md R87). -/
def classCode : ClassCode → Byte
  | .absent => 0#8
  | .n64 => 1#8
  | .gc => 2#8
  | .gcKeyboard => 3#8
  | .unknown => 4#8

/-- STATUS.BUSY (10_state.md R25). -/
def State.busy (s : State) : Bool := s.ctl != .idle && s.ctl != .faulted

/-- STATUS.FAULT (10_state.md R28). -/
def State.faultFlag (s : State) : Bool := s.ctl == .faulted

/-- A field of STATUS whose lowest bit is bit `lo`. -/
def statusField (lo : Nat) (w : Nat) (v : BitVec w) : Word := v.setWidth 32 <<< lo

/-- STATUS, the status port's word (10_state.md R24). Bits [7] and [31:24] are reserved and read 0. -/
def State.status (s : State) : Word :=
  statusField 0 1 (BitVec.ofBool s.busy) ||| statusField 1 1 (BitVec.ofBool s.lineInit)
  ||| statusField 2 1 (BitVec.ofBool s.bufValid) ||| statusField 3 1 (BitVec.ofBool s.faultFlag)
  ||| statusField 4 2 (diagCode s.diag) ||| statusField 6 1 (BitVec.ofBool s.cfg.forceKb)
  ||| statusField 8 4 (causeCode s.faultCause) ||| statusField 12 4 (ctlCode s.ctl) ||| statusField 16 8 s.rxcount

/-- FAULT_INFO on the status port (10_state.md R45). -/
def State.faultInfoPort (s : State) : Word := s.faultInfo

end Sys2Proof.Machine
end

