-- ==== Sys2Proof/Machine/Operands.lean ====
section
/-! DEFINITION. The operand forms: bit offsets, byte counts and outbound lengths, and the checks that gate them
(20_memory.md R61, 41_transaction.md R132, 42_buffer.md R172-R174). -/

namespace Sys2Proof.Machine

/-- The byte index of a bit offset, `OFF div 8` (20_memory.md R61, 42_buffer.md R172). -/
def byteIndex (off : Nat) : Nat := off / 8

/-- Is the bit offset a multiple of 8 (20_memory.md R65)? -/
def aligned (off : Nat) : Bool := off % 8 == 0

/-- The checks of a read of `n` bytes at a bit offset, in the order of 60_exceptions.md R213: alignment (R172), then, for
n ≥ 1, range (R173) and validity (R174). `none`: the read is performed. -/
def checkRead (off n : Nat) (s : State) : Option FaultCause :=
  if aligned off = false then some .misalignedOffset
  else if n = 0 then none
  else if byteIndex off + n > Config.bufCap then some .outOfRange
  else if s.bufValid = false ∨ byteIndex off + n > s.rxcount.toNat then some .staleRead
  else none

/-- The outbound length check (41_transaction.md R132). -/
def checkLen (len : Nat) (s : State) : Option FaultCause :=
  if len = 0 ∨ len > s.cfg.txCap then some .txLen else none

/-- The transactions' gate (10_state.md R26). -/
def checkInit (s : State) : Option FaultCause :=
  if s.lineInit = false then some .notInitialized else none

end Sys2Proof.Machine
end

