-- ==== Sys2Proof/Machine/Ops.lean ====
section
/-! DEFINITION. The shared operations: the ports, taking a fault, reset, the buffers and the line
(10_state.md R43-R48, 20_memory.md R60, 40_line_controller.md R101-R103, 60_exceptions.md R213, R214, 70_reset_and_hazards.md R240). -/

namespace Sys2Proof.Machine

/-! ### Results -/

/-- `f` applied to the next state, if there is one. -/
def onNext (r : Result) (f : State → State) : Result :=
  match r with
  | .next s => .next (f s)
  | .fault e => .fault e
  | .refused e => .refused e

/-- `f` run from the next state, if there is one. -/
def andThen (r : Result) (f : State → Result) : Result :=
  match r with
  | .next s => f s
  | .fault e => .fault e
  | .refused e => .refused e

/-! ### Ports -/

/-- Is rst = 1 in this tick (70_reset_and_hazards.md R240)? -/
def State.rstNow (s : State) : Bool := s.rst.headD false

/-- Is the block ready for a CMD word: STATE = IDLE and RSPQ empty (10_state.md R43)? -/
def State.ready (s : State) : Bool := s.ctl == .idle && s.rspq.isEmpty

/-- cmd_ready (10_state.md R43), which is 0 in a reset tick (70_reset_and_hazards.md R240). -/
def State.cmdReady (s : State) : Bool := !s.rstNow && (s.ready || s.ctl == .load)

/-- The word on the command port in this tick: cmd_valid and cmd_word (10_state.md R43). -/
def State.cmdWord (s : State) : Option Word := s.host.cmd.headD none

/-- The word accepted in this tick (10_state.md R43). -/
def State.accepted (s : State) : Option Word := if s.cmdReady then s.cmdWord else none

/-- rsp_valid (10_state.md R44), which is 0 in a reset tick (70_reset_and_hazards.md R240). -/
def State.rspValid (s : State) : Bool := !s.rstNow && !s.rspq.isEmpty

/-- rsp_word (10_state.md R44). -/
def State.rspWord (s : State) : Option Word := if s.rspValid then s.rspq.head? else none

/-- rsp_ready in this tick (10_state.md R44). -/
def State.rspReady (s : State) : Bool := s.host.rspReady.headD s.host.rspRest

/-- `respond(v)`: the response word zext_32(v) is appended to RSPQ (00_scope.md R14, 30_encoding.md R86). -/
def respond (v : Byte) (s : State) : State := { s with rspq := s.rspq ++ [v.setWidth 32] }

/-! ### Faults -/

/-- `raise Fault(cause, word)`: FAULT_CAUSE, FAULT_INFO and STATE, and nothing else (60_exceptions.md R214). Taking a fault
is a next state (log 15). -/
def raiseFault (cause : FaultCause) (word : Word) (s : State) : State :=
  { s with faultCause := cause, faultInfo := word, ctl := .faulted }

/-- The cause a rejected CMD word reports (60_exceptions.md R213 steps 1 and 2). -/
def rejectCause : Reject → FaultCause
  | .reservedOpcode => .reservedOpcode
  | .reservedField => .reservedField

/-- Step 3 of CHECK_CMD (60_exceptions.md R213): the state-dependent checks of a command, the first failing one. -/
def checkCmd (i : Instr) (s : State) : Option FaultCause :=
  match i with
  | .initLine => none
  | .execTxn len => checkInit s <|> checkLen len s
  | .readByte off => checkRead off 1 s
  | .readBytes off n => checkRead off n s
  | .detect => checkInit s

/-- A command at the port: in a state that accepts no CMD word nothing happens (10_state.md R43, log 14); where a check
fails the fault is taken with the command's word (60_exceptions.md R213, R214); otherwise the command's `body` runs. -/
def performCmd (i : Instr) (s : State) (body : State → Result) : Result :=
  if s.ready = false then .next s
  else match checkCmd i s with
    | some cause => .next (raiseFault cause (encode i) s)
    | none => body s

/-! ### Buffers -/

/-- `WBUF[i]` (00_scope.md R14). -/
def State.wbufByte (s : State) (i : Nat) : Byte := s.wbuf.read i

/-- `WBUF[i] <- v` (20_memory.md R66). -/
def putWbuf (i : Nat) (v : Byte) (s : State) : State := { s with wbuf := s.wbuf.write i v }

/-- `TXBUF[i]` (00_scope.md R14). -/
def State.txbufByte (s : State) (i : Nat) : Byte := s.txbuf.read i

/-- `TXBUF[i] <- v` (20_memory.md R66). TXBUF has the indices 0 .. TX_CAP - 1 (10_state.md R41): outside them the model
stops (log 16). -/
def putTxbuf (i : Nat) (v : Byte) (s : State) : Result :=
  if i < s.cfg.txCap then .next { s with txbuf := s.txbuf.write i v } else .fault .outsideTxbuf

/-! ### Line and pins -/

/-- `DRIVE_LOW` (40_line_controller.md R101). -/
def driveLow (s : State) : State := { s with dir := true }

/-- `RELEASE` (40_line_controller.md R101). -/
def release (s : State) : State := { s with dir := false }

/-- dev_low in this tick (40_line_controller.md R103, log 7). -/
def State.devLow (s : State) : Bool :=
  match s.bus with
  | .absent => false
  | .present [] => Config.freeDevLow s.tick
  | .present (d :: _) => d

/-- line(t), the level of the data line in this tick, true = high (40_line_controller.md R103, log 8). -/
def State.line (s : State) : Bool :=
  if s.dir && s.out then (if s.devLow then Config.freeContention s.tick else true)
  else if (s.dir && !s.out) || s.devLow then false
  else true

/-- The data pin's drive (10_state.md R33, R47): `none` released, `some level` driven. -/
def State.dataPin (s : State) : Option Bool := if s.dir then some s.out else none

/-- The debug pin's drive (10_state.md R34, R47). -/
def State.debugPin (s : State) : Option Bool := if s.dbgDir then some s.dbgOut else none

/-- TIMER <- n, a register of 16 bits (10_state.md R37, log 28). -/
def setTimer (n : Nat) (s : State) : State := { s with timer := BitVec.ofNat 16 n }

/-! ### Reset -/

/-- What the spec leaves to a draw at reset (10_state.md R50). -/
structure ResetDraws where
  dir : Bool
  out : Bool
  dbgDir : Bool
  dbgOut : Bool
  savedIe : Bool
  wbuf : Memory
  txbuf : Memory
  deriving DecidableEq, Repr

/-- The draws of a reset tick: free values (10_state.md R51, 70_reset_and_hazards.md R240, log 4). -/
@[irreducible] def freeDraws (tick txCap : Nat) : ResetDraws where
  dir := Config.freeDir tick
  out := Config.freeOut tick
  dbgDir := Config.freeDbgDir tick
  dbgOut := Config.freeDbgOut tick
  savedIe := Config.freeSavedIe tick
  wbuf := Memory.fill (Config.freeWbuf tick) Config.bufCap
  txbuf := Memory.fill (Config.freeTxbuf tick) txCap

/-- RESET_TICK's register writes (70_reset_and_hazards.md R240, 10_state.md R50). IE and everything outside the block stay. -/
def resetBlock (d : ResetDraws) (s : State) : State :=
  { s with
    ctl := .idle
    mode := .execTxn
    lineInit := false
    bufValid := false
    rxcount := 0#8
    diag := .ok
    faultCause := .none
    faultInfo := 0#32
    dir := d.dir
    out := d.out
    dbgDir := d.dbgDir
    dbgOut := d.dbgOut
    txlen := 0#8
    loadcnt := 0#8
    txidx := 0#8
    bitidx := 7#3
    phase := .low
    txbuf := d.txbuf
    nbits := 0#16
    shift := 0#8
    prev := true
    wbuf := d.wbuf
    timer := 0#16
    savedIe := d.savedIe
    rspq := [] }

end Sys2Proof.Machine
end

