-- ==== Sys2Proof/Machine/Buffer.lean ====
section
/-! DEFINITION. The bit-packer and the work-buffer reader (42_buffer.md). -/

namespace Sys2Proof.Machine

/-- SHIFT after one more bit: ((SHIFT << 1) | b)[7:0] (42_buffer.md R170). -/
def shiftIn (sh : Byte) (b : Bool) : Byte := (sh <<< 1) ||| (BitVec.ofBool b).setWidth 8

/-- PACK_BIT (42_buffer.md R170). -/
def packBit (b : Bool) (s : State) : State :=
  if (s.nbits.toNat + 1) % 8 = 0 ∧ (s.nbits.toNat + 1) / 8 ≤ Config.bufCap then
    putWbuf ((s.nbits.toNat + 1) / 8 - 1) (shiftIn s.shift b)
      { s with shift := shiftIn s.shift b, nbits := BitVec.ofNat 16 (s.nbits.toNat + 1) }
  else { s with shift := shiftIn s.shift b, nbits := BitVec.ofNat 16 (s.nbits.toNat + 1) }

/-- READ_BYTE (42_buffer.md R175). -/
def execReadByte (off : Nat) (s : State) : Result :=
  performCmd (.readByte off) s fun s => .next (respond (s.wbufByte (byteIndex off)) s)

/-- The responses of a run of bytes, lowest index first (42_buffer.md R176). -/
def respondAll (vs : List Byte) (s : State) : State :=
  vs.foldl (fun t v => respond v t) s

/-- READ_BYTES (42_buffer.md R176). -/
def execReadBytes (off n : Nat) (s : State) : Result :=
  performCmd (.readBytes off n) s fun s => .next (respondAll (s.wbuf.readList (byteIndex off) n) s)

end Sys2Proof.Machine
end

