-- ==== Sys2Proof/Machine/LineController.lean ====
section
/-! DEFINITION. The open-drain line controller and the bit-level transceiver's transmit side (40_line_controller.md). -/

namespace Sys2Proof.Machine

/-- INIT_LINE (40_line_controller.md R100). -/
def execInitLine (s : State) : Result :=
  performCmd .initLine s fun s =>
    .next { s with dir := false, out := false, dbgDir := true, dbgOut := false, lineInit := true }

/-- `phase_len(PHASE, b)`: the ticks of a half of the cell of bit `b` (40_line_controller.md R104). -/
def phaseLen (c : Config) (p : Phase) (b : Bool) : Nat :=
  match p with
  | .low => if b then c.t1Low else c.t0Low
  | .high => if b then c.t1High else c.t0High

/-- `TXBUF[TXIDX][BITIDX]`, the bit being sent (40_line_controller.md R105, R106). -/
def State.txBit (s : State) : Bool := (s.txbufByte s.txidx.toNat).getLsbD s.bitidx.toNat

/-- NEXT_BIT (40_line_controller.md R107). -/
def nextBit (s : State) : State :=
  if s.bitidx.toNat > 0 then
    driveLow { s with bitidx := s.bitidx - 1#3, phase := .low }
  else if s.txidx.toNat + 1 < s.txlen.toNat then
    driveLow { s with txidx := BitVec.ofNat 8 (s.txidx.toNat + 1), bitidx := 7#3, phase := .low }
  else
    driveLow { s with ctl := .txStop }

/-- TX_TICK's writes (40_line_controller.md R106). -/
def txAdvance (s : State) : State :=
  if s.timer.toNat + 1 < phaseLen s.cfg s.phase s.txBit then setTimer (s.timer.toNat + 1) s
  else match s.phase with
    | .low => release { setTimer 0 s with phase := .high }
    | .high => nextBit (setTimer 0 s)

/-- TX_TICK (40_line_controller.md R106): TXBUF is read at TXIDX, which must be an index of it (log 16). -/
def txTick (s : State) : Result :=
  if s.txidx.toNat < s.cfg.txCap then .next (txAdvance s) else .fault .outsideTxbuf

/-- TX_STOP_TICK (40_line_controller.md R108). -/
def txStopTick (s : State) : State :=
  if s.timer.toNat + 1 < s.cfg.tstopLow then setTimer (s.timer.toNat + 1) s
  else release { setTimer 0 s with prev := false, ctl := .rxWait }

/-- EDGE's test: a falling edge in this tick (40_line_controller.md R110). -/
def State.edge (s : State) : Bool := s.prev && !s.line

/-- EDGE's write, PREV <- line(t) (40_line_controller.md R110). -/
def recordLine (s : State) : State := { s with prev := s.line }

end Sys2Proof.Machine
end

