-- ==== Sys2Proof/Machine/Transaction.lean ====
section
/-! DEFINITION. The transaction engine: header, load, start, receive, end and post delay (41_transaction.md). -/

namespace Sys2Proof.Machine

/-- TXN_START (41_transaction.md R140). -/
def txnStart (s : State) : State :=
  driveLow
    { s with
      savedIe := s.ie
      ie := false
      bufValid := false
      rxcount := 0#8
      nbits := 0#16
      shift := 0#8
      txidx := 0#8
      bitidx := 7#3
      phase := .low
      timer := 0#16
      ctl := .tx }

/-- EXEC_TXN, the acceptance of its CMD word: EXEC_HEADER (41_transaction.md R133). Its DATA words follow (`loadWord`),
then the phases of the transaction, tick by tick (41_transaction.md R152). -/
def execExecTxn (len : Nat) (s : State) : Result :=
  performCmd (.execTxn len) s fun s =>
    .next { s with txlen := BitVec.ofNat 8 len, loadcnt := 0#8, mode := .execTxn, ctl := .load }

/-- What LOAD_WORD does once the byte is stored: the last byte starts the transaction (41_transaction.md R134). -/
def loadAdvance (s : State) : State :=
  if s.loadcnt.toNat + 1 = s.txlen.toNat then txnStart s
  else { s with loadcnt := BitVec.ofNat 8 (s.loadcnt.toNat + 1) }

/-- LOAD_WORD with CHECK_DATA (41_transaction.md R134, 60_exceptions.md R213). -/
def loadWord (d : Word) (s : State) : Result :=
  if dataRsv d ≠ 0#24 then .next (raiseFault .reservedField d s)
  else onNext (putTxbuf s.loadcnt.toNat (dataByte d) s) loadAdvance

/-- RX_OUTCOME: the framing check on the sampled bit count (41_transaction.md R141). -/
def rxOutcome (nbits : Nat) : Byte :=
  if nbits % 8 = 1 ∧ 9 ≤ nbits ∧ nbits ≤ 8 * Config.bufCap + 1 then BitVec.ofNat 8 (nbits / 8) else Config.rxErr

/-- The received count of a return code: RX_ERR becomes 0 (41_transaction.md R143). -/
def normalizeRc (rc : Byte) : Byte := if rc = Config.rxErr then 0#8 else rc

/-- The DIAG of a return code (41_transaction.md R144). -/
def diagOf (rc : Byte) : Diag :=
  if rc = 0#8 then .timeout else if rc = Config.rxErr then .lineError else .ok

/-- TXN_END (41_transaction.md R144). -/
def txnEnd (rc : Byte) (s : State) : State :=
  { s with
    ie := s.savedIe
    rxcount := normalizeRc rc
    bufValid := decide (0 < (normalizeRc rc).toNat)
    diag := diagOf rc
    timer := 0#16
    ctl := .postDelay }

/-- RX_WAIT_TICK (41_transaction.md R137). -/
def rxWaitTick (s : State) : State :=
  if s.edge then { setTimer 0 (recordLine s) with ctl := .rxBit }
  else if s.timer.toNat + 1 < s.cfg.tRxTimeout then setTimer (s.timer.toNat + 1) (recordLine s)
  else txnEnd 0#8 (recordLine s)

/-- RX_BIT_TICK (41_transaction.md R138). -/
def rxBitTick (s : State) : State :=
  if s.timer.toNat + 1 = s.cfg.tSample then
    if s.nbits.toNat + 1 = Config.nbitsMax then
      txnEnd Config.rxErr (packBit s.line (setTimer (s.timer.toNat + 1) (recordLine s)))
    else { packBit s.line (setTimer (s.timer.toNat + 1) (recordLine s)) with ctl := .rxGap }
  else setTimer (s.timer.toNat + 1) (recordLine s)

/-- RX_GAP_TICK (41_transaction.md R139). -/
def rxGapTick (s : State) : State :=
  if s.edge then { setTimer 0 (recordLine s) with ctl := .rxBit }
  else if s.timer.toNat + 1 < s.cfg.tGap then setTimer (s.timer.toNat + 1) (recordLine s)
  else txnEnd (rxOutcome s.nbits.toNat) (recordLine s)

/-- POST_DELAY_TICK (41_transaction.md R145). -/
def postDelayTick (s : State) : State :=
  if s.timer.toNat + 1 < s.cfg.tPost then setTimer (s.timer.toNat + 1) s
  else match s.mode with
    | .execTxn => { respond s.rxcount (setTimer 0 s) with ctl := .idle }
    | .detect => { setTimer 0 s with ctl := .classify }

end Sys2Proof.Machine
end

