-- ==== Sys2Proof/Machine/Classifier.lean ====
section
/-! DEFINITION. The controller-family classifier (43_classifier.md). -/

namespace Sys2Proof.Machine

/-- CLASSIFY_ID: the class of a 16-bit identifier, by its whole top byte (43_classifier.md R190, R197). -/
def classifyId (id : BitVec 16) : ClassCode :=
  let top : Byte := id.extractLsb' 8 8
  if top = 0x05#8 then .n64
  else if top = 0x09#8 ∨ top = 0x0B#8 then .gc
  else if top = 0x08#8 then (if id = 0x0820#16 then .gcKeyboard else .gc)
  else .unknown

/-- The 16-bit value (hi << 8) | lo (20_memory.md R63). -/
def joinBytes (hi lo : Byte) : BitVec 16 := (hi.setWidth 16 <<< 8) ||| lo.setWidth 16

/-- The identifier (WBUF[0] << 8) | WBUF[1] (43_classifier.md R195). -/
def State.identifier (s : State) : BitVec 16 := joinBytes (s.wbufByte 0) (s.wbufByte 1)

/-- DETECT_RESULT of a received count (43_classifier.md R191). -/
def detectResult (n : Nat) (s : State) : ClassCode :=
  if n = 0 then .absent
  else if n ≠ Config.idReplyLen then .unknown
  else if s.cfg.forceKb then .gcKeyboard
  else classifyId s.identifier

/-- DETECT, the acceptance of its CMD word: the three writes and TXN_START (43_classifier.md R192). The phases of the
transaction and CLASSIFY follow, tick by tick (41_transaction.md R152). -/
def execDetect (s : State) : Result :=
  performCmd .detect s fun s =>
    onNext (putTxbuf 0 s.cfg.idCmd s) fun t => txnStart { t with txlen := 1#8, mode := .detect }

/-- CLASSIFY_TICK (43_classifier.md R194). -/
def classifyTick (s : State) : State :=
  { respond (classCode (detectResult s.rxcount.toNat s)) s with ctl := .idle }

end Sys2Proof.Machine
end

