-- ==== Sys2Proof/Machine/Dispatch.lean ====
section
/-! DEFINITION. One arm per command (30_encoding.md R82). -/

namespace Sys2Proof.Machine

/-- The meaning of a command in the tick that offers it to the command port. -/
def exec (i : Instr) (s : State) : Host.Outcome State Fault Refusal :=
  match i with
  | .initLine => Sys2Proof.Machine.execInitLine s
  | .execTxn len => Sys2Proof.Machine.execExecTxn len s
  | .readByte off => Sys2Proof.Machine.execReadByte off s
  | .readBytes off n => Sys2Proof.Machine.execReadBytes off n s
  | .detect => Sys2Proof.Machine.execDetect s

end Sys2Proof.Machine
end

