-- ==== Sys2Proof/Machine/Tick.lean ====
section
/-! DEFINITION. One tick of Level L (00_scope.md R15, 41_transaction.md R152): what the block does in it, what the host and
the bus device do beside it, and the reset tick. Every part reads the state at the tick's start. -/

namespace Sys2Proof.Machine

/-- A word accepted at the command port: a DATA word in LOAD, a CMD word otherwise (30_encoding.md R80). A CMD word that is
no command faults (60_exceptions.md R213 steps 1 and 2). -/
def acceptWord (w : Word) (s : State) : Result :=
  if s.ctl = .load then loadWord w s
  else match decode w with
    | .ok i => exec i s
    | .error e => .next (raiseFault (rejectCause e) w s)

/-- The block's own tick in a tick that accepts no word (41_transaction.md R152, 60_exceptions.md R215). -/
def blockTick (s : State) : Result :=
  match s.ctl with
  | .idle => .next s
  | .load => .next s
  | .tx => txTick s
  | .txStop => .next (txStopTick s)
  | .rxWait => .next (rxWaitTick s)
  | .rxBit => .next (rxBitTick s)
  | .rxGap => .next (rxGapTick s)
  | .postDelay => .next (postDelayTick s)
  | .classify => .next (classifyTick s)
  | .faulted => .next s

/-- The block's transition in a tick without reset (41_transaction.md R152). -/
def blockStep (s : State) : Result :=
  match s.accepted with
  | some w => acceptWord w s
  | none => blockTick s

/-- The bus device one tick later. -/
def busAfter : BusDevice → BusDevice
  | .absent => .absent
  | .present drives => .present drives.tail

/-- Does the host take a response word in this tick (10_state.md R44)? -/
def State.pops (s : State) : Bool := s.rspValid && s.rspReady

/-- The command-port script one tick later: a held word stays until it is accepted (10_state.md R43). -/
def cmdAfter (s : State) : List (Option Word) :=
  if s.cmdWord.isSome && s.accepted.isNone then s.host.cmd else s.host.cmd.tail

/-- The host one tick later. It has no IE write to make in a transaction phase: the script waits (10_state.md R53, log 11). -/
def hostAfter (s : State) : HostSide where
  cmd := cmdAfter s
  rspReady := if s.rspValid then s.host.rspReady.tail else s.host.rspReady
  rspRest := s.host.rspRest
  ieWrite := if txnPhase s.ctl then s.host.ieWrite else s.host.ieWrite.tail
  received := if s.pops then s.host.received ++ s.rspq.take 1 else s.host.received

/-- IE at the end of a tick from `s` in which the block's own transition gives `t`: the host's write outside transaction
phases (10_state.md R39, R53); in the tick of TXN_START the block's write stands (10_state.md R52, log 10). -/
def ieAfter (s t : State) : Bool :=
  if txnPhase s.ctl || txnPhase t.ctl then t.ie else (s.host.ieWrite.headD none).getD t.ie

/-- The tick's end: `t`, the block's transition from `s`, with the host's and the device's moves of the tick
(10_state.md R43, R44, R48). A response popped is the head of RSPQ at the tick's start. -/
def endTick (s t : State) : State :=
  { t with
    rspq := if s.pops then t.rspq.tail else t.rspq
    ie := ieAfter s t
    rst := s.rst.tail
    host := hostAfter s
    bus := busAfter s.bus
    tick := s.tick + 1 }

/-- RESET_TICK (70_reset_and_hazards.md R240): no word is accepted, none is popped and IE is not written; the host keeps its
moves for later ticks (log 12). -/
def resetTick (s : State) : State :=
  { resetBlock (freeDraws s.tick s.cfg.txCap) s with
    rst := s.rst.tail
    bus := busAfter s.bus
    tick := s.tick + 1 }

/-- One tick (00_scope.md R15). Reset beats every other event (60_exceptions.md R222). -/
def tickOnce (s : State) : Result :=
  if s.rstNow then .next (resetTick s) else onNext (blockStep s) (endTick s)

/-- The words that make the command whose CMD word is `w` a whole one: EXEC_TXN's LEN DATA words, all zero
(30_encoding.md R90). -/
def dataWordsOf (w : Word) : List (Option Word) :=
  match decode w with
  | .ok (.execTxn len) => List.replicate len (some 0#32)
  | _ => []

/-- `s` with the CMD word `w` on the command port, ready to be accepted in this tick: rst is 0, STATE is IDLE and RSPQ is
empty (10_state.md R43, log 18); the command's DATA words follow it. -/
def offerWord (s : State) (w : Word) : State :=
  { s with
    ctl := .idle
    rspq := []
    rst := false :: s.rst
    host := { s.host with cmd := some w :: (dataWordsOf w ++ s.host.cmd) } }

end Sys2Proof.Machine
end

