-- ==== Sys2Proof/Machine/Step.lean ====
section
/-! DEFINITION. The machine's step: one tick of Level L (00_scope.md R8, log 1). -/

namespace Sys2Proof.Machine

/-- One step is one tick (00_scope.md R15). -/
def step (s : State) : Host.Outcome State Fault Refusal := tickOnce s

/-- `s` with the instruction of the table's `nbits` bits `w` on the command port, accepted by the next step (log 18). -/
def State.withFetchWord (s : State) (nbits w : Nat) : State := offerWord s (tableWord nbits w)

end Sys2Proof.Machine
end

