-- ==== Sys2Proof/Machine/Assembler.lean ====
section
/-! DEFINITION. The command-stream lines of the assembler and the pseudo-instructions (30_encoding.md R91, R92). -/

namespace Sys2Proof.Machine

/-- A line of a command stream (30_encoding.md R91) or a pseudo-instruction (R92). -/
inductive AsmLine where
  | initLine
  | execTxn (bytes : List Byte)
  | readByte (off : Nat)
  | readBytes (off n : Nat)
  | detect
  /-- READ_ID. -/
  | readId
  /-- READ16 off. -/
  | read16 (off : Nat)
  /-- ID_TXN. -/
  | idTxn
  deriving DecidableEq, Repr

/-- The line a pseudo-instruction stands for (30_encoding.md R92). -/
def expandLine (c : Config) : AsmLine → AsmLine
  | .readId => .readBytes 0 2
  | .read16 off => .readBytes off 2
  | .idTxn => .execTxn [c.idCmd]
  | .initLine => .initLine
  | .execTxn bytes => .execTxn bytes
  | .readByte off => .readByte off
  | .readBytes off n => .readBytes off n
  | .detect => .detect

/-- The command of a line, and the bytes of its DATA words (30_encoding.md R91). -/
def lineCommand (c : Config) (l : AsmLine) : Instr × List Byte :=
  match expandLine c l with
  | .initLine => (.initLine, [])
  | .execTxn bytes => (.execTxn bytes.length, bytes)
  | .readByte off => (.readByte off, [])
  | .readBytes off n => (.readBytes off n, [])
  | .detect => (.detect, [])
  | .readId => (.readBytes 0 2, [])
  | .read16 off => (.readBytes off 2, [])
  | .idTxn => (.execTxn 1, [c.idCmd])

/-- The words of a line; `none` where an operand does not fit its field (30_encoding.md R91). -/
def assembleLine (c : Config) (l : AsmLine) : Option (List Word) :=
  if (lineCommand c l).1.wf then
    some (encode (lineCommand c l).1 :: (lineCommand c l).2.map fun b => b.setWidth 32)
  else none

end Sys2Proof.Machine
end

