-- ==== Sys2Proof/Machine/LevelT.lean ====
section
/-! DEFINITION. Level T: one atomic step per command, the device's answer an argument (00_scope.md R8, 41_transaction.md
R130, R150, R151). It shares Level L's acceptance of words and replaces the tick-by-tick transceiver by the outcome. -/

namespace Sys2Proof.Machine

/-- The device's answer to a transaction (41_transaction.md R150), drawn under no law: an argument (log 20). -/
inductive TxnOutcome where
  | timeout
  | lineError
  | ok (reply : List Byte)
  deriving DecidableEq, Repr

/-- What Level T leaves unspecified after a transaction (41_transaction.md R151): the registers used only at Level L, and
WBUF after a line error. An argument: every value is admitted (log 20). -/
structure ScratchDraws where
  timer : BitVec 16
  txidx : BitVec 8
  bitidx : BitVec 3
  phase : Phase
  nbits : BitVec 16
  shift : Byte
  prev : Bool
  loadcnt : BitVec 8
  wbufAfterError : Memory
  deriving DecidableEq, Repr

/-- The bound on a draw: a reply holds 1 .. BUF_CAP bytes (41_transaction.md R150). -/
def outcomeLegal : TxnOutcome → Bool
  | .timeout => true
  | .lineError => true
  | .ok r => 1 ≤ r.length && r.length ≤ Config.bufCap

/-- The return code of an outcome (41_transaction.md R150). -/
def outcomeRc : TxnOutcome → Byte
  | .timeout => 0#8
  | .lineError => Config.rxErr
  | .ok r => BitVec.ofNat 8 r.length

/-- WBUF after an outcome (41_transaction.md R150). -/
def outcomeWbuf (o : TxnOutcome) (d : ScratchDraws) (m : Memory) : Memory :=
  match o with
  | .timeout => m
  | .lineError => d.wbufAfterError
  | .ok r => m.writeList 0 r

/-- The Level-L-only registers take their draws (41_transaction.md R151). -/
def scramble (d : ScratchDraws) (s : State) : State :=
  { s with
    timer := d.timer
    txidx := d.txidx
    bitidx := d.bitidx
    phase := d.phase
    nbits := d.nbits
    shift := d.shift
    prev := d.prev
    loadcnt := d.loadcnt }

/-- The response of the transaction in progress (41_transaction.md R131, 43_classifier.md R191). -/
def txnResponse (s : State) : Byte :=
  match s.mode with
  | .execTxn => s.rxcount
  | .detect => classCode (detectResult s.rxcount.toNat s)

/-- A transaction from TXN_START's end to IDLE, in one step (41_transaction.md R130, 43_classifier.md R192): the frame is
sent and the line released, the answer is taken, TXN_END, the delay, the response. -/
def finishTxn (o : TxnOutcome) (d : ScratchDraws) (s : State) : State :=
  let t := txnEnd (outcomeRc o) { release s with wbuf := outcomeWbuf o d s.wbuf }
  scramble d { respond (txnResponse t) t with ctl := .idle }

/-- R130's loop over the DATA words, from word `i` on, and what follows it up to TXN_START: each good word stores its byte, a
bad one faults at once, and MODE and TXLEN are written only after the last one (41_transaction.md R130; Level L's header
writes them before, R133). LOADCNT, which only Level L uses, takes its draw on a fault (41_transaction.md R151). With too few
words the block waits in LOAD, as at Level L (93_implementation_defined.md I23, log 29). -/
def takeData (len : Nat) (d : ScratchDraws) : List Word → Nat → State → Result
  | [], i, s =>
    .next { s with txlen := BitVec.ofNat 8 len, loadcnt := BitVec.ofNat 8 i, mode := .execTxn, ctl := .load }
  | w :: ws, i, s =>
    if dataRsv w ≠ 0#24 then .next (raiseFault .reservedField w { s with loadcnt := d.loadcnt })
    else andThen (putTxbuf i (dataByte w) s) fun t =>
      if i + 1 = len then .next (txnStart { t with mode := .execTxn, txlen := BitVec.ofNat 8 len })
      else takeData len d ws (i + 1) t

/-- EXEC_TXN at Level T up to TXN_START: the header's checks, then the DATA words (41_transaction.md R130). -/
def startTxnT (len : Nat) (data : List Word) (d : ScratchDraws) (s : State) : Result :=
  performCmd (.execTxn len) s (takeData len d data 0)

/-- A command at Level T up to TXN_START; the commands other than EXEC_TXN are as at Level L in the tick that accepts them
(40_line_controller.md R100, 42_buffer.md R175, R176, 43_classifier.md R192). -/
def acceptT (i : Instr) (data : List Word) (d : ScratchDraws) (s : State) : Result :=
  match i with
  | .initLine => execInitLine s
  | .execTxn len => startTxnT len data d s
  | .readByte off => execReadByte off s
  | .readBytes off n => execReadBytes off n s
  | .detect => execDetect s

/-- The Level T step: a CMD word and the DATA words that follow it, an outcome and the draws (00_scope.md R8). Only an
accepted transaction uses the outcome. -/
def stepT (w : Word) (data : List Word) (o : TxnOutcome) (d : ScratchDraws) (s : State) : Result :=
  if s.ready = false then .next s
  else match decode w with
    | .ok i => onNext (acceptT i data d s) fun t => if t.ctl = .tx then finishTxn o d t else t
    | .error e => .next (raiseFault (rejectCause e) w s)

end Sys2Proof.Machine
end

