-- ==== Sys2Proof/Machine/Timing.lean ====
section
/-! DEFINITION. Durations in ticks, derived from the parameters (40_line_controller.md R113, 41_transaction.md R148). -/

namespace Sys2Proof.Machine

/-- The ticks of the cell of bit `b` (40_line_controller.md R104). -/
def bitTicks (c : Config) (b : Bool) : Nat := phaseLen c .low b + phaseLen c .high b

/-- The ticks of bits `n - 1 .. 0` of a byte. -/
def bitsTicks (c : Config) (v : Byte) : Nat → Nat
  | 0 => 0
  | n + 1 => bitTicks c (v.getLsbD n) + bitsTicks c v n

/-- The ticks of a frame, from the first low tick to the last stop tick (40_line_controller.md R113). -/
def frameTicks (c : Config) (bytes : List Byte) : Nat :=
  (bytes.map fun v => bitsTicks c v 8).sum + c.tstopLow

/-- The bound on the ticks from TXN_START to IDLE of a frame of `n` bytes (41_transaction.md R148). -/
def txnTicksBound (c : Config) (n : Nat) : Nat :=
  8 * n * max (c.t0Low + c.t0High) (c.t1Low + c.t1High) + c.tstopLow + c.tRxTimeout + Config.nbitsMax * c.tGap + c.tPost + 2

end Sys2Proof.Machine
end

