-- ==== Sys2Proof/Safety.lean ====
section
/-! DEFINITION. The terms claims use: runs, the invariants of 10_state.md R52 and what they rest on, and the named
assumptions on the host and the device. -/

namespace Sys2Proof.Machine

/-- `n` ticks. -/
def runTicks : Nat → State → Result
  | 0, s => .next s
  | n + 1, s => andThen (step s) (runTicks n)

/-- Ticks until STATE is IDLE, at most `n`. -/
def runToIdle : Nat → State → Result
  | 0, s => .next s
  | n + 1, s => if s.ctl = .idle then .next s else andThen (step s) (runToIdle n)

/-- CHECK_CMD on the bits of a word (60_exceptions.md R213), the first failing check: opcode, then the bits outside OP and
the opcode's fields by the masks of 30_encoding.md R83, then the checks on the state. -/
def checkWord (w : Word) (s : State) : Option FaultCause :=
  match (w &&& 0xF#32).toNat with
  | 1 => if w &&& 0xFFFFFFFF#32 ≠ 1#32 then some .reservedField else none
  | 2 =>
    if w &&& 0xFFFF000F#32 ≠ 2#32 then some .reservedField
    else if s.lineInit = false then some .notInitialized
    else if (w.toNat / 16) % 4096 = 0 ∨ (w.toNat / 16) % 4096 > s.cfg.txCap then some .txLen
    else none
  | 3 =>
    if w &&& 0xFFFF000F#32 ≠ 3#32 then some .reservedField
    else if (w.toNat / 16) % 8 ≠ 0 then some .misalignedOffset
    else if (w.toNat / 16) % 4096 / 8 + 1 > Config.bufCap then some .outOfRange
    else if s.bufValid = false ∨ (w.toNat / 16) % 4096 / 8 + 1 > s.rxcount.toNat then some .staleRead
    else none
  | 4 =>
    if w &&& 0xFF00000F#32 ≠ 4#32 then some .reservedField
    else if (w.toNat / 16) % 8 ≠ 0 then some .misalignedOffset
    else if (w.toNat / 65536) % 256 = 0 then none
    else if (w.toNat / 16) % 4096 / 8 + (w.toNat / 65536) % 256 > Config.bufCap then some .outOfRange
    else if s.bufValid = false ∨ (w.toNat / 16) % 4096 / 8 + (w.toNat / 65536) % 256 > s.rxcount.toNat then some .staleRead
    else none
  | 5 =>
    if w &&& 0xFFFFFFFF#32 ≠ 5#32 then some .reservedField
    else if s.lineInit = false then some .notInitialized
    else none
  | _ => some .reservedOpcode

/-- STATE is one of the states outside transmission of 10_state.md R52, item 3. -/
def quietCtl : Ctl → Bool
  | .idle | .load | .postDelay | .classify | .faulted => true
  | .tx | .txStop | .rxWait | .rxBit | .rxGap => false

/-- The ticks the running timer has to go in a state that uses TIMER (10_state.md R37). -/
def timerLimit (s : State) : Nat :=
  match s.ctl with
  | .tx => phaseLen s.cfg s.phase s.txBit
  | .txStop => s.cfg.tstopLow
  | .rxWait => s.cfg.tRxTimeout
  | .rxBit => s.cfg.tSample
  | .rxGap => s.cfg.tGap
  | .postDelay => s.cfg.tPost
  | .idle | .load | .classify | .faulted => 65536

/-- The five invariants of 10_state.md R52, in its order. -/
structure LineInvariants (s : State) : Prop where
  neverHigh : s.lineInit = true → s.out = false
  masked : txnPhase s.ctl = true → s.lineInit = true ∧ s.ie = false
  released : quietCtl s.ctl = true → s.lineInit = true → s.dir = false
  validCount : s.bufValid = true → 1 ≤ s.rxcount.toNat ∧ s.rxcount.toNat ≤ Config.bufCap
  invalidCount : s.bufValid = false → s.rxcount = 0#8
  loading : s.ctl = .load → s.loadcnt.toNat < s.txlen.toNat ∧ s.rspq = []

/-- The invariant of every run: R52, and what its proof and the block's progress rest on. -/
structure BlockInv (s : State) : Prop where
  /-- 10_state.md R52. -/
  line : LineInvariants s
  /-- 00_scope.md R11. -/
  config : s.cfg.wf = true
  /-- A command in progress was accepted after INIT_LINE (10_state.md R26). -/
  initialised : s.ctl ≠ .idle → s.ctl ≠ .faulted → s.lineInit = true
  /-- The line is released while the receiver listens (41_transaction.md R144). -/
  listening : rxPhase s.ctl = true → s.dir = false
  /-- RSPQ is empty outside IDLE (10_state.md R43, 60_exceptions.md R215). -/
  drained : s.ctl ≠ .idle → s.rspq = []
  /-- RSPQ never overflows (10_state.md R46). -/
  rspqCap : s.rspq.length ≤ Config.bufCap
  /-- In a transaction phase the buffer is invalid (70_reset_and_hazards.md R249). -/
  invalidated : txnPhase s.ctl = true → s.bufValid = false
  /-- TXLEN is a legal length while it is used (10_state.md R35). -/
  length : (s.ctl = .load ∨ s.ctl = .tx) → s.txlen.toNat ≤ s.cfg.txCap
  /-- TXIDX never reaches TXLEN (40_line_controller.md R107). -/
  sending : s.ctl = .tx → s.txidx.toNat < s.txlen.toNat
  /-- NBITS stays below NBITS_MAX from TXN_START to TXN_END (41_transaction.md R138, R140). -/
  counting : txnPhase s.ctl = true → s.nbits.toNat < Config.nbitsMax
  /-- TIMER stays below the limit of its state, so it never wraps (00_scope.md R19). -/
  timing : s.timer.toNat < timerLimit s
  /-- A fault cause is recorded exactly in FAULTED (10_state.md R31). -/
  cause : s.faultCause = .none ↔ s.ctl ≠ .faulted
  /-- WBUF is in canonical form and holds BUF_CAP bytes (10_state.md R40). -/
  wbufForm : s.wbuf.wf Config.bufCap = true
  /-- TXBUF is in canonical form and holds TX_CAP bytes (10_state.md R41). -/
  txbufForm : s.txbuf.wf s.cfg.txCap = true

/-- The reset input stays 0. -/
def State.noReset (s : State) : Prop := ∀ b ∈ s.rst, b = false

/-- The host writes IE no more. -/
def State.ieUntouched (s : State) : Prop := ∀ v ∈ s.host.ieWrite, v = none

/-- No device is attached: dev_low is false in every tick (40_line_controller.md R103). -/
def State.noDevice (s : State) : Prop := s.bus = .absent

/-- STATE has just become TX: what TXN_START leaves (41_transaction.md R140), whatever the other registers hold. -/
structure AtTxnStart (s : State) : Prop where
  ctl : s.ctl = .tx
  dir : s.dir = true
  bufValid : s.bufValid = false
  rxcount : s.rxcount = 0#8
  nbits : s.nbits = 0#16
  shift : s.shift = 0#8
  txidx : s.txidx = 0#8
  bitidx : s.bitidx = 7#3
  phase : s.phase = .low
  timer : s.timer = 0#16

/-- `t` with the host, the device and the tick count of `s`: the block's registers alone. -/
def State.outsideOf (t s : State) : State :=
  { t with rst := s.rst, host := s.host, bus := s.bus, tick := s.tick }

end Sys2Proof.Machine
end

