-- ==== Sys2Proof/Certificates/Slice0/Obligations.lean ====
section
/-! DEFINITION. The statements for the provers, from the numbered rules of spec/. -/

open Sys2Proof Sys2Proof.Machine

/-! ### Encoding -/

/-- 30_encoding.md R81, R83: decoding the word of a command gives it back, every operand at every value of its field. -/
def Obligations.EncodeThenDecode : Prop :=
  ∀ i : Instr, i.wf = true → decode (encode i) = .ok i

/-- 30_encoding.md R83, R89: each word has at most one meaning; the word of a decoded command is the word decoded, so a
fault's FAULT_INFO is the word at the port (10_state.md R32). -/
def Obligations.DecodeThenEncode : Prop :=
  ∀ (w : Word) (i : Instr), decode w = .ok i → i.wf = true ∧ encode i = w

/-- 30_encoding.md R83, R88: a decoded word matches its command's row of the table; an undefined opcode, and a word of a
defined opcode that matches no row, are rejected, each by its name. -/
def Obligations.DecodeFollowsTable : Prop :=
  ∀ w : Word,
    (∀ i, decode w = .ok i → w &&& maskWord i = matchWord i) ∧
    (decode w = .error .reservedOpcode ↔ (fieldOp w = 0#4 ∨ 6 ≤ (fieldOp w).toNat)) ∧
    (decode w = .error .reservedField ↔
      (1 ≤ (fieldOp w).toNat ∧ (fieldOp w).toNat ≤ 5 ∧ ∀ i, w &&& maskWord i ≠ matchWord i))

/-- Words of 95_test_vectors.md, one or more per command, and rejected ones. -/
def Obligations.SpecWordsDecode : Prop :=
  decode 0x00000001#32 = .ok .initLine ∧
  decode 0x00000012#32 = .ok (.execTxn 1) ∧
  decode 0x00000282#32 = .ok (.execTxn 40) ∧
  decode 0x00000103#32 = .ok (.readByte 16) ∧
  decode 0x0000FFF3#32 = .ok (.readByte 4095) ∧
  decode 0x00020084#32 = .ok (.readBytes 8 2) ∧
  decode 0x00290004#32 = .ok (.readBytes 0 41) ∧
  decode 0x00000005#32 = .ok .detect ∧
  decode 0x00000006#32 = .error .reservedOpcode ∧
  decode 0x01000002#32 = .error .reservedField ∧
  decode 0x80000004#32 = .error .reservedField

/-- 30_encoding.md R91, R92: the words of each line, row by row, the operand that each row refuses, and the expansion of each
pseudo-instruction; and the words of every assembled line decode to its command, with one good DATA word per byte (R84). -/
def Obligations.AssembledLinesDecode : Prop :=
  ∀ (c : Config) (bytes : List Byte) (off n : Nat),
    assembleLine c .initLine = some [0x00000001#32] ∧ assembleLine c .detect = some [0x00000005#32] ∧
    assembleLine c (.execTxn bytes) =
      (if bytes.length ≤ 4095 then some (BitVec.ofNat 32 (16 * bytes.length + 2) :: bytes.map fun b => b.setWidth 32)
       else none) ∧
    assembleLine c (.readByte off) = (if off ≤ 4095 then some [BitVec.ofNat 32 (16 * off + 3)] else none) ∧
    assembleLine c (.readBytes off n) =
      (if off ≤ 4095 ∧ n ≤ 255 then some [BitVec.ofNat 32 (65536 * n + 16 * off + 4)] else none) ∧
    assembleLine c .readId = some [0x00020004#32] ∧ assembleLine c .readId = assembleLine c (.readBytes 0 2) ∧
    assembleLine c (.read16 off) = assembleLine c (.readBytes off 2) ∧
    assembleLine c .idTxn = some [0x00000012#32, c.idCmd.setWidth 32] ∧
    assembleLine c .idTxn = assembleLine c (.execTxn [c.idCmd]) ∧
    decode 0x00000001#32 = .ok .initLine ∧ decode 0x00000005#32 = .ok .detect ∧
    (bytes.length ≤ 4095 → decode (BitVec.ofNat 32 (16 * bytes.length + 2)) = .ok (.execTxn bytes.length)) ∧
    (off ≤ 4095 → decode (BitVec.ofNat 32 (16 * off + 3)) = .ok (.readByte off)) ∧
    (off ≤ 4095 → n ≤ 255 → decode (BitVec.ofNat 32 (65536 * n + 16 * off + 4)) = .ok (.readBytes off n)) ∧
    (bytes.map fun b => dataByte (b.setWidth 32)) = bytes ∧ (∀ b ∈ bytes, dataRsv (b.setWidth 32) = 0#24) ∧
    ∀ l : AsmLine,
      (assembleLine c l = none ↔ (lineCommand c l).1.wf = false) ∧
      ∀ ws, assembleLine c l = some ws → ∃ w ds, ws = w :: ds ∧ decode w = .ok (lineCommand c l).1 ∧
        ds.map dataByte = (lineCommand c l).2 ∧ ∀ d ∈ ds, dataRsv d = 0#24

/-! ### Reset -/

/-- 10_state.md R50: the value of every piece of state after reset, whatever the draws and whatever the state before. -/
def Obligations.ResetValues : Prop :=
  ∀ (d : ResetDraws) (s : State),
    let t := resetBlock d s
    ctlCode t.ctl = 0#4 ∧ modeCode t.mode = 0#1 ∧ t.lineInit = false ∧ t.bufValid = false ∧ t.rxcount = 0#8 ∧
    diagCode t.diag = 0#2 ∧ causeCode t.faultCause = 0#4 ∧ t.faultInfo = 0x00000000#32 ∧
    t.dir = d.dir ∧ t.out = d.out ∧ t.dbgDir = d.dbgDir ∧ t.dbgOut = d.dbgOut ∧
    t.txlen = 0#8 ∧ t.loadcnt = 0#8 ∧ t.txidx = 0#8 ∧ t.bitidx = 7#3 ∧ t.phase = .low ∧
    t.nbits = 0#16 ∧ t.shift = 0#8 ∧ t.timer = 0#16 ∧ t.prev = true ∧ t.savedIe = d.savedIe ∧
    t.wbuf = d.wbuf ∧ t.txbuf = d.txbuf ∧ t.rspq = [] ∧ t.ie = s.ie

/-- State.reset is a reset state for some draws, with the default parameters of 00_scope.md R11 that are valid. The values
of the draws and of IE in it are the model's choice (notes/assumptions/3.md, 5.md). -/
def Obligations.ResetIsAResetState : Prop :=
  (∃ d, resetBlock d State.reset = State.reset) ∧ State.reset.cfg.wf = true ∧
  Config.tPostDefault State.reset.cfg.tickNs = State.reset.cfg.tPost ∧ State.reset.status = 0x00000000#32

/-- 70_reset_and_hazards.md R240: a tick with rst = 1 gives a reset state from any state, accepts no word, pops no response
and writes no IE. -/
def Obligations.ResetBeatsEverything : Prop :=
  ∀ s : State, s.rstNow = true →
    s.cmdReady = false ∧ s.rspValid = false ∧
    ∃ d, step s = .next { resetBlock d s with rst := s.rst.tail, bus := busAfter s.bus, tick := s.tick + 1 }

/-- 70_reset_and_hazards.md R243: STATUS after INIT_LINE from any reset state. -/
def Obligations.StatusAfterBoot : Prop :=
  ∀ (d : ResetDraws) (s : State), ∃ t, exec .initLine (resetBlock d s) = .next t ∧
    t.status = if s.cfg.forceKb then 0x00000042#32 else 0x00000002#32

/-! ### The commands -/

/-- 40_line_controller.md R100: INIT_LINE's writes; it keeps every other register; a second one changes nothing; a nonzero
bit in [31:4] faults; the STATUS of the rule's example. -/
def Obligations.InitLineCompletes : Prop :=
  (∀ (d : ResetDraws) (s : State), s.cfg.forceKb = false →
    ∃ t, exec .initLine (resetBlock d s) = .next t ∧
      t.dir = false ∧ t.out = false ∧ t.lineInit = true ∧ t.status = 0x00000002#32) ∧
  ∀ s : State, s.ready = true →
    (∃ t, exec .initLine s = .next t ∧
      t = { s with dir := false, out := false, dbgDir := true, dbgOut := false, lineInit := true } ∧
      exec .initLine t = .next t) ∧
    ∀ w : Word, fieldOp w = 1#4 → w.extractLsb' 4 28 ≠ 0#28 →
      acceptWord w s = .next { s with faultCause := .reservedField, faultInfo := w, ctl := .faulted }

/-- 41_transaction.md R133: the acceptance of an EXEC_TXN header. -/
def Obligations.ExecTxnHeaderCompletes : Prop :=
  ∀ (s : State) (len : Nat), s.ready = true → s.lineInit = true → 1 ≤ len → len ≤ s.cfg.txCap → s.cfg.wf = true →
    ∃ t, exec (.execTxn len) s = .next t ∧ t.txlen.toNat = len ∧
      t = { s with txlen := BitVec.ofNat 8 len, loadcnt := 0#8, mode := .execTxn, ctl := .load }

/-- 41_transaction.md R134: LOAD stores the byte of a good DATA word and starts the transaction with the last one
(41_transaction.md R140); without a word nothing changes. -/
def Obligations.LoadWordCompletes : Prop :=
  ∀ s : State, s.ctl = .load →
    (∀ d : Word, dataRsv d ≠ 0#24 →
      acceptWord d s = .next { s with faultCause := .reservedField, faultInfo := d, ctl := .faulted }) ∧
    (∀ d : Word, dataRsv d = 0#24 → s.loadcnt.toNat < s.cfg.txCap → s.loadcnt.toNat + 1 ≠ s.txlen.toNat →
      acceptWord d s = .next { s with
        txbuf := s.txbuf.write s.loadcnt.toNat (dataByte d), loadcnt := BitVec.ofNat 8 (s.loadcnt.toNat + 1) }) ∧
    (∀ d : Word, dataRsv d = 0#24 → s.loadcnt.toNat < s.cfg.txCap → s.loadcnt.toNat + 1 = s.txlen.toNat →
      acceptWord d s = .next { s with
        txbuf := s.txbuf.write s.loadcnt.toNat (dataByte d)
        savedIe := s.ie, ie := false, bufValid := false, rxcount := 0#8, nbits := 0#16, shift := 0#8
        txidx := 0#8, bitidx := 7#3, phase := .low, timer := 0#16, dir := true, ctl := .tx }) ∧
    (s.accepted = none → blockStep s = .next s)

/-- 42_buffer.md R175: READ_BYTE appends the byte at OFF div 8. -/
def Obligations.ReadByteCompletes : Prop :=
  ∀ (s : State) (off : Nat), s.ready = true → off % 8 = 0 → off / 8 + 1 ≤ Config.bufCap → s.bufValid = true →
    off / 8 + 1 ≤ s.rxcount.toNat →
    exec (.readByte off) s = .next { s with rspq := [(s.wbufByte (off / 8)).setWidth 32] }

/-- 42_buffer.md R176: READ_BYTES appends the N bytes from OFF div 8, lowest index first; with N = 0 it appends nothing,
whatever the range and the buffer's validity. -/
def Obligations.ReadBytesCompletes : Prop :=
  ∀ (s : State) (off n : Nat), s.ready = true → off % 8 = 0 →
    (n = 0 ∨ (off / 8 + n ≤ Config.bufCap ∧ s.bufValid = true ∧ off / 8 + n ≤ s.rxcount.toNat)) →
    exec (.readBytes off n) s =
      .next { s with rspq := (List.range n).map fun j => (s.wbufByte (off / 8 + j)).setWidth 32 }

/-- 43_classifier.md R192 at Level L, with 41_transaction.md R140: the acceptance of DETECT. -/
def Obligations.DetectCompletes : Prop :=
  ∀ s : State, s.ready = true → s.lineInit = true → s.cfg.wf = true →
    exec .detect s = .next { s with
      txbuf := s.txbuf.write 0 s.cfg.idCmd, txlen := 1#8, mode := .detect
      savedIe := s.ie, ie := false, bufValid := false, rxcount := 0#8, nbits := 0#16, shift := 0#8
      txidx := 0#8, bitidx := 7#3, phase := .low, timer := 0#16, dir := true, ctl := .tx }

/-- 60_exceptions.md R213, R214: a CMD word reports the first failing check, and the fault writes FAULT_CAUSE, FAULT_INFO
and STATE alone; a word that passes every check is performed. Step 2 of R213 is read by its prose (notes/assumptions/13.md). -/
def Obligations.CheckOrder : Prop :=
  ∀ (w : Word) (s : State),
    (s.ctl = .load → dataRsv w ≠ 0#24 →
      acceptWord w s = .next { s with faultCause := .reservedField, faultInfo := w, ctl := .faulted }) ∧
    (s.ready = true → ∀ c, checkWord w s = some c →
      acceptWord w s = .next { s with faultCause := c, faultInfo := w, ctl := .faulted }) ∧
    (s.ready = true → checkWord w s = none → ∃ i, decode w = .ok i ∧ checkCmd i s = none ∧ acceptWord w s = exec i s)

/-- 42_buffer.md R172, R173, R174: the faults of READ_BYTE (n = 1) and READ_BYTES, each with the command's word. -/
def Obligations.ReadFaults : Prop :=
  ∀ (s : State) (off n : Nat) (i : Instr), s.ready = true → (i = .readBytes off n ∨ (i = .readByte off ∧ n = 1)) →
    (off % 8 ≠ 0 →
      exec i s = .next { s with faultCause := .misalignedOffset, faultInfo := encode i, ctl := .faulted }) ∧
    (off % 8 = 0 → 1 ≤ n → off / 8 + n > Config.bufCap →
      exec i s = .next { s with faultCause := .outOfRange, faultInfo := encode i, ctl := .faulted }) ∧
    (off % 8 = 0 → 1 ≤ n → off / 8 + n ≤ Config.bufCap → (s.bufValid = false ∨ off / 8 + n > s.rxcount.toNat) →
      exec i s = .next { s with faultCause := .staleRead, faultInfo := encode i, ctl := .faulted })

/-- 10_state.md R26, 41_transaction.md R132: a transaction before INIT_LINE faults NOT_INITIALIZED; after it, an outbound
length of 0 or above TX_CAP faults TX_LEN. -/
def Obligations.TransactionFaults : Prop :=
  ∀ (s : State) (len : Nat), s.ready = true →
    (s.lineInit = false →
      exec (.execTxn len) s =
        .next { s with faultCause := .notInitialized, faultInfo := encode (.execTxn len), ctl := .faulted } ∧
      exec .detect s = .next { s with faultCause := .notInitialized, faultInfo := encode .detect, ctl := .faulted }) ∧
    (s.lineInit = true → (len = 0 ∨ len > s.cfg.txCap) →
      exec (.execTxn len) s =
        .next { s with faultCause := .txLen, faultInfo := encode (.execTxn len), ctl := .faulted })

/-- 10_state.md R43: a command offered while the block is not ready for one has no effect at all. -/
def Obligations.NotReadyTurnsAway : Prop :=
  ∀ (i : Instr) (s : State), (s.ctl ≠ .idle ∨ s.rspq ≠ []) → exec i s = .next s

/-- The frame of INIT_LINE, EXEC_TXN's header, READ_BYTE and READ_BYTES, on every path on which exec gives a next state:
no byte of WBUF or TXBUF changes, and no register but those named (40_line_controller.md R100, 41_transaction.md R133,
42_buffer.md R175, R176, R178, 60_exceptions.md R214). -/
def Obligations.FrameStoringNothing : Prop :=
  ∀ (s t : State) (len off n a : Nat),
    (exec .initLine s = .next t →
      t.wbufByte a = s.wbufByte a ∧ t.txbufByte a = s.txbufByte a ∧
      t = { s with dir := t.dir, out := t.out, dbgDir := t.dbgDir, dbgOut := t.dbgOut, lineInit := t.lineInit }) ∧
    (exec (.execTxn len) s = .next t →
      t.wbufByte a = s.wbufByte a ∧ t.txbufByte a = s.txbufByte a ∧
      t = { s with txlen := t.txlen, loadcnt := t.loadcnt, mode := t.mode, ctl := t.ctl,
                   faultCause := t.faultCause, faultInfo := t.faultInfo }) ∧
    (exec (.readByte off) s = .next t ∨ exec (.readBytes off n) s = .next t →
      t.wbufByte a = s.wbufByte a ∧ t.txbufByte a = s.txbufByte a ∧
      t = { s with rspq := t.rspq, ctl := t.ctl, faultCause := t.faultCause, faultInfo := t.faultInfo })

/-- The frame of DETECT (43_classifier.md R192, 41_transaction.md R140): of the arrays it stores to TXBUF[0] alone, and it
writes no register but those named. -/
def Obligations.FrameOfDetect : Prop :=
  ∀ s t : State, s.txbuf.wf s.cfg.txCap = true → exec .detect s = .next t →
    (∀ a, t.wbufByte a = s.wbufByte a) ∧ (∀ a, a ≠ 0 → t.txbufByte a = s.txbufByte a) ∧
    t = { s with
      txbuf := t.txbuf, txlen := t.txlen, mode := t.mode, savedIe := t.savedIe, ie := t.ie, bufValid := t.bufValid
      rxcount := t.rxcount, nbits := t.nbits, shift := t.shift, txidx := t.txidx, bitidx := t.bitidx
      phase := t.phase, timer := t.timer, dir := t.dir, ctl := t.ctl
      faultCause := t.faultCause, faultInfo := t.faultInfo }

/-! ### One tick -/

/-- A step runs the decoded command (10_state.md R43, 00_scope.md R15): when the block is ready and the word on the command
port decodes to `i`, the tick is exec of `i`, and beside it the word is consumed and the host's and the device's moves of the
tick are taken. -/
def Obligations.StepRunsDecoded : Prop :=
  ∀ (s : State) (w : Word) (i : Instr), s.rstNow = false → s.ready = true → s.cmdWord = some w → decode w = .ok i →
    step s = onNext (exec i s) fun u =>
      { u with
        ie := ieAfter s u, rst := s.rst.tail, bus := busAfter s.bus, tick := s.tick + 1
        host := { s.host with cmd := s.host.cmd.tail, ieWrite := s.host.ieWrite.tail } }

/-- 10_state.md R43, 30_encoding.md R80: cmd_ready is 1 exactly in IDLE with RSPQ empty and in LOAD; the word on the port is
accepted exactly when cmd_ready is 1, in LOAD as a DATA word; until then the host holds it. -/
def Obligations.CommandHandshake : Prop :=
  ∀ (s t : State) (w : Word), s.rstNow = false → s.cmdWord = some w → step s = .next t →
    (s.cmdReady = true ↔ (s.ctl = .idle ∧ s.rspq = []) ∨ s.ctl = .load) ∧
    (s.accepted = if s.cmdReady then some w else none) ∧
    (((s.ctl = .idle ∧ s.rspq = []) ∨ s.ctl = .load) → t.host.cmd = s.host.cmd.tail) ∧
    (¬((s.ctl = .idle ∧ s.rspq = []) ∨ s.ctl = .load) → t.host.cmd = s.host.cmd) ∧
    (s.ctl = .load → ∃ u, loadWord w s = .next u ∧ t.ctl = u.ctl ∧ t.txbuf = u.txbuf ∧ t.loadcnt = u.loadcnt)

/-- 10_state.md R44, 20_memory.md R71: rsp_valid is 1 exactly when RSPQ is non-empty and rsp_word is then its head; responses
leave in the order they were appended, one at most in a tick and only when the host is ready for it; none is lost or altered. -/
def Obligations.ResponsesInOrder : Prop :=
  ∀ s t : State, s.rstNow = false → step s = .next t →
    (s.rspValid = true ↔ s.rspq ≠ []) ∧ s.rspWord = s.rspq.head? ∧
    (∃ new, t.host.received ++ t.rspq = s.host.received ++ s.rspq ++ new) ∧
    (∀ v q, s.rspq = v :: q →
      t.host.received = if s.rspReady then s.host.received ++ [v] else s.host.received) ∧
    (s.rspq = [] → t.host.received = s.host.received)

/-- 40_line_controller.md R106, R107: TX_TICK. -/
def Obligations.TxTick : Prop :=
  ∀ s : State, s.ctl = .tx → s.txidx.toNat < s.cfg.txCap →
    let b := (s.txbufByte s.txidx.toNat).getLsbD s.bitidx.toNat
    let dur := match s.phase, b with
      | .low, true => s.cfg.t1Low
      | .low, false => s.cfg.t0Low
      | .high, true => s.cfg.t1High
      | .high, false => s.cfg.t0High
    blockStep s = .next (
      if s.timer.toNat + 1 < dur then { s with timer := BitVec.ofNat 16 (s.timer.toNat + 1) }
      else if s.phase = .low then { s with timer := 0#16, phase := .high, dir := false }
      else if s.bitidx ≠ 0#3 then { s with timer := 0#16, bitidx := s.bitidx - 1#3, phase := .low, dir := true }
      else if s.txidx.toNat + 1 < s.txlen.toNat then
        { s with timer := 0#16, txidx := BitVec.ofNat 8 (s.txidx.toNat + 1), bitidx := 7#3, phase := .low, dir := true }
      else { s with timer := 0#16, dir := true, ctl := .txStop })

/-- 40_line_controller.md R108: TX_STOP_TICK. -/
def Obligations.TxStopTick : Prop :=
  ∀ s : State, s.ctl = .txStop →
    blockStep s = .next (
      if s.timer.toNat + 1 < s.cfg.tstopLow then { s with timer := BitVec.ofNat 16 (s.timer.toNat + 1) }
      else { s with timer := 0#16, dir := false, prev := false, ctl := .rxWait })

/-- 41_transaction.md R137, 40_line_controller.md R110: RX_WAIT_TICK; an edge in the last tick of the timeout is taken. -/
def Obligations.RxWaitTick : Prop :=
  ∀ s : State, s.ctl = .rxWait →
    (s.prev = true → s.line = false →
      blockStep s = .next { s with prev := false, timer := 0#16, ctl := .rxBit }) ∧
    ((s.prev = false ∨ s.line = true) → s.timer.toNat + 1 < s.cfg.tRxTimeout →
      blockStep s = .next { s with prev := s.line, timer := BitVec.ofNat 16 (s.timer.toNat + 1) }) ∧
    ((s.prev = false ∨ s.line = true) → s.cfg.tRxTimeout ≤ s.timer.toNat + 1 →
      blockStep s = .next { s with
        prev := s.line, ie := s.savedIe, rxcount := 0#8, bufValid := false, diag := .timeout, timer := 0#16
        ctl := .postDelay })

/-- 41_transaction.md R138, 42_buffer.md R170: RX_BIT_TICK; the bit is the line level at the sample point, and the 322nd
bit ends the receive in a line error. -/
def Obligations.RxBitTick : Prop :=
  ∀ s : State, s.ctl = .rxBit →
    let k := s.nbits.toNat + 1
    let sh := ((s.shift <<< 1) ||| (BitVec.ofBool s.line).setWidth 8 : Byte)
    let m := if k % 8 = 0 ∧ k / 8 ≤ 40 then s.wbuf.write (k / 8 - 1) sh else s.wbuf
    (s.timer.toNat + 1 ≠ s.cfg.tSample →
      blockStep s = .next { s with prev := s.line, timer := BitVec.ofNat 16 (s.timer.toNat + 1) }) ∧
    (s.timer.toNat + 1 = s.cfg.tSample → k ≠ 322 →
      blockStep s = .next { s with
        prev := s.line, timer := BitVec.ofNat 16 (s.timer.toNat + 1)
        shift := sh, nbits := BitVec.ofNat 16 k, wbuf := m, ctl := .rxGap }) ∧
    (s.timer.toNat + 1 = s.cfg.tSample → k = 322 →
      blockStep s = .next { s with
        prev := s.line, shift := sh, nbits := BitVec.ofNat 16 k, wbuf := m
        ie := s.savedIe, rxcount := 0#8, bufValid := false, diag := .lineError, timer := 0#16, ctl := .postDelay })

/-- 41_transaction.md R139, R141, R143, R144: RX_GAP_TICK; the reply of 8m + 1 bits, m from 1 to 40, ends with the count m,
any other with a line error, whose count is 0. -/
def Obligations.RxGapTick : Prop :=
  ∀ s : State, s.ctl = .rxGap →
    (s.prev = true → s.line = false →
      blockStep s = .next { s with prev := false, timer := 0#16, ctl := .rxBit }) ∧
    ((s.prev = false ∨ s.line = true) → s.timer.toNat + 1 < s.cfg.tGap →
      blockStep s = .next { s with prev := s.line, timer := BitVec.ofNat 16 (s.timer.toNat + 1) }) ∧
    ((s.prev = false ∨ s.line = true) → s.cfg.tGap ≤ s.timer.toNat + 1 →
      (∀ m, 1 ≤ m → m ≤ 40 → s.nbits.toNat = 8 * m + 1 →
        blockStep s = .next { s with
          prev := s.line, ie := s.savedIe, rxcount := BitVec.ofNat 8 m, bufValid := true, diag := .ok
          timer := 0#16, ctl := .postDelay }) ∧
      ((¬ ∃ m, 1 ≤ m ∧ m ≤ 40 ∧ s.nbits.toNat = 8 * m + 1) →
        blockStep s = .next { s with
          prev := s.line, ie := s.savedIe, rxcount := 0#8, bufValid := false, diag := .lineError
          timer := 0#16, ctl := .postDelay }))

/-- 43_classifier.md R191, R194: CLASSIFY_TICK responds with the class code of the reply. -/
def Obligations.ClassifyTick : Prop :=
  ∀ s : State, s.ctl = .classify → ∃ c : Byte,
    blockStep s = .next { s with rspq := s.rspq ++ [c.setWidth 32], ctl := .idle } ∧
    (s.rxcount = 0#8 → c = 0#8) ∧
    (s.rxcount ≠ 0#8 → s.rxcount ≠ 3#8 → c = 4#8) ∧
    (s.rxcount = 3#8 → s.cfg.forceKb = true → c = 3#8) ∧
    (s.rxcount = 3#8 → s.cfg.forceKb = false → c = classCode (classifyId ((s.wbufByte 0).setWidth 16 <<< 8 ||| (s.wbufByte 1).setWidth 16)))

/-- 43_classifier.md R190, R199: the class of every identifier, by its top byte and, below 0x08, its low byte. -/
def Obligations.ClassifierTable : Prop :=
  ∀ hi lo : Byte,
    let c := classCode (classifyId (hi.setWidth 16 <<< 8 ||| lo.setWidth 16))
    (hi = 0x05#8 → c = 1#8) ∧
    (hi = 0x08#8 → lo = 0x20#8 → c = 3#8) ∧
    (hi = 0x08#8 → lo ≠ 0x20#8 → c = 2#8) ∧
    (hi = 0x09#8 ∨ hi = 0x0B#8 → c = 2#8) ∧
    (hi ≠ 0x05#8 → hi ≠ 0x08#8 → hi ≠ 0x09#8 → hi ≠ 0x0B#8 → c = 4#8)

/-- 40_line_controller.md R103: unless the block drives high the line is the wired-AND of the drivers with a pull-up; where it
drives high and the device low, the level is a draw, of which nothing is said; with no device attached dev_low is false. -/
def Obligations.LineIsWiredAnd : Prop :=
  ∀ s : State,
    (¬(s.dir = true ∧ s.out = true) → (s.line = true ↔ s.dir = false ∧ s.devLow = false)) ∧
    (s.dir = true → s.out = true → s.devLow = false → s.line = true) ∧
    (s.noDevice → s.devLow = false)

/-- 10_state.md R24, R25, R28: the fields of STATUS, with the codes of R22, R30 and 60_exceptions.md R211 written out; BUSY and
FAULT are 0 after reset. -/
def Obligations.StatusLayout : Prop :=
  ∀ s : State,
    (s.status.getLsbD 0 = true ↔ s.ctl ≠ .idle ∧ s.ctl ≠ .faulted) ∧
    s.status.getLsbD 1 = s.lineInit ∧ s.status.getLsbD 2 = s.bufValid ∧
    (s.status.getLsbD 3 = true ↔ s.ctl = .faulted) ∧
    s.status.extractLsb' 4 2 = (match s.diag with | .ok => 0#2 | .timeout => 1#2 | .lineError => 2#2) ∧
    s.status.getLsbD 6 = s.cfg.forceKb ∧ s.status.getLsbD 7 = false ∧
    s.status.extractLsb' 8 4 = (match s.faultCause with
      | .none => 0#4 | .reservedOpcode => 1#4 | .reservedField => 2#4 | .notInitialized => 3#4 | .txLen => 4#4
      | .misalignedOffset => 5#4 | .outOfRange => 6#4 | .staleRead => 7#4) ∧
    s.status.extractLsb' 12 4 = (match s.ctl with
      | .idle => 0#4 | .load => 1#4 | .tx => 2#4 | .txStop => 3#4 | .rxWait => 4#4 | .rxBit => 5#4 | .rxGap => 6#4
      | .postDelay => 7#4 | .classify => 8#4 | .faulted => 15#4) ∧
    s.status.extractLsb' 16 8 = s.rxcount ∧ s.status.extractLsb' 24 8 = 0#8 ∧
    ∀ d, (resetBlock d s).status.getLsbD 0 = false ∧ (resetBlock d s).status.getLsbD 3 = false

/-! ### The buffer -/

/-- 42_buffer.md R171: after bits packed from an empty receive, reply bit k is bit 7 - k mod 8 of WBUF[k div 8]. -/
def Obligations.PackedLayout : Prop :=
  ∀ (bits : List Bool) (s : State), s.nbits = 0#16 → s.wbuf.wf Config.bufCap = true → bits.length ≤ Config.nbitsMax →
    ∀ k, k < 8 * min (bits.length / 8) Config.bufCap →
      ((bits.foldl (fun t b => packBit b t) s).wbufByte (k / 8)).getLsbD (7 - k % 8) = bits.getD k false

/-- 42_buffer.md R177: a run of bytes is the single reads in order, and it is performed exactly when all of them are; where it
faults, one of them faults; the causes can differ as the rule says. -/
def Obligations.RunEqualsSingles : Prop :=
  ∀ (s : State) (k n : Nat), s.ready = true → 1 ≤ n →
    ((∃ t, exec (.readBytes (8 * k) n) s = .next t ∧ t.ctl = .idle) ↔
      ∀ j, j < n → ∃ t, exec (.readByte (8 * (k + j))) s = .next t ∧ t.ctl = .idle) ∧
    (∀ t, exec (.readBytes (8 * k) n) s = .next t → t.ctl = .idle →
      ∀ j, j < n → ∃ v, t.rspq[j]? = some v ∧ exec (.readByte (8 * (k + j))) s = .next { s with rspq := [v] }) ∧
    ((∃ t, exec (.readBytes (8 * k) n) s = .next t ∧ t.ctl = .faulted) ↔
      ∃ j, j < n ∧ ∃ t, exec (.readByte (8 * (k + j))) s = .next t ∧ t.ctl = .faulted) ∧
    (s.bufValid = false → k < Config.bufCap → k + n > Config.bufCap →
      exec (.readBytes (8 * k) n) s = .next (raiseFault .outOfRange (encode (.readBytes (8 * k) n)) s) ∧
      exec (.readByte (8 * k)) s = .next (raiseFault .staleRead (encode (.readByte (8 * k))) s))

/-- 42_buffer.md R178: a read that is performed changes nothing but RSPQ, and repeated once RSPQ is drained it gives the same
words. -/
def Obligations.ReadsArePure : Prop :=
  ∀ (s t : State) (i : Instr) (off n : Nat), (i = .readByte off ∨ i = .readBytes off n) → s.ready = true →
    exec i s = .next t → t.ctl = .idle →
    t = { s with rspq := t.rspq } ∧ exec i { t with rspq := [] } = .next t

/-! ### Transactions -/

/-- 41_transaction.md R145: from TXN_END the block stays in POST_DELAY for exactly T_POST ticks, whatever the outcome, and
then responds with the count or goes to CLASSIFY. -/
def Obligations.PostDelayIsExact : Prop :=
  ∀ s : State, s.ctl = .postDelay → s.timer = 0#16 → s.rspq = [] → s.noReset → s.cfg.wf = true →
    (∀ k, k < s.cfg.tPost → ∃ u, runTicks k s = .next u ∧ u.ctl = .postDelay ∧ u.cmdReady = false ∧ u.rspq = []) ∧
    ∃ t, runTicks s.cfg.tPost s = .next t ∧
      (s.mode = .execTxn → t.ctl = .idle ∧ t.rspq = [s.rxcount.setWidth 32]) ∧
      (s.mode = .detect → t.ctl = .classify ∧ t.rspq = [])

/-- 41_transaction.md R146: after a TXN_END the line is not driven for T_POST + 2 ticks. -/
def Obligations.SpacingOfTransactions : Prop :=
  ∀ (s : State) (n : Nat), BlockInv s → s.ctl = .postDelay → s.timer = 0#16 → s.noReset → n ≤ s.cfg.tPost + 1 →
    ∃ u, runTicks n s = .next u ∧ u.dir = false

/-- 40_line_controller.md R113, R105: a frame lasts the ticks of its bits and its stop condition, and then the receiver
listens on a released line. -/
def Obligations.FrameDuration : Prop :=
  ∀ s : State, BlockInv s → AtTxnStart s → s.noReset →
    let f := frameTicks s.cfg (s.txbuf.readList 0 s.txlen.toNat)
    (∀ k, k < f → ∃ u, runTicks k s = .next u ∧ (u.ctl = .tx ∨ u.ctl = .txStop)) ∧
    ∃ t, runTicks f s = .next t ∧ t.ctl = .rxWait ∧ t.timer = 0#16 ∧ t.dir = false ∧ t.prev = false

/-- 41_transaction.md R148: once TXN_START has run the block is back in IDLE within the bound, whatever the device does. -/
def Obligations.TransactionTerminates : Prop :=
  ∀ s : State, BlockInv s → AtTxnStart s → s.noReset →
    ∃ t, runToIdle (txnTicksBound s.cfg s.txlen.toNat) s = .next t ∧ t.ctl = .idle

/-- 41_transaction.md R150, R151: every run of Level L from TXN_START to IDLE is the Level T transaction with some legal
outcome, in every register of the block. -/
def Obligations.LevelTAbstractsLevelL : Prop :=
  ∀ (s t : State) (n : Nat), BlockInv s → AtTxnStart s → s.noReset → s.ieUntouched →
    runToIdle n s = .next t → t.ctl = .idle →
    ∃ o d, outcomeLegal o = true ∧ t.outsideOf s = finishTxn o d s

/-- 41_transaction.md R150: with no device attached the outcome is Timeout: count 0, DIAG 1, WBUF unchanged. -/
def Obligations.NoDeviceTimesOut : Prop :=
  ∀ (s t : State) (n : Nat), BlockInv s → AtTxnStart s → s.noReset → s.ieUntouched → s.noDevice →
    runToIdle n s = .next t → t.ctl = .idle →
    ∃ d, t.outsideOf s = finishTxn .timeout d s

/-- 41_transaction.md R149: IE is 0 from TXN_START to TXN_END and then what it was in the TXN_START tick, for every outcome;
if it was 0 it stays 0 throughout. The host writes no IE in a transaction phase (10_state.md R53). -/
def Obligations.InterruptEnablePreserved : Prop :=
  ∀ (s u t : State) (n : Nat), txnPhase s.ctl = false → step s = .next u → u.ctl = .tx → runTicks n u = .next t →
    (∀ k, k < n → ∃ v, runTicks k u = .next v ∧ txnPhase v.ctl = true) →
    (txnPhase t.ctl = true → t.ie = false) ∧ (t.ctl = .postDelay → t.ie = s.ie) ∧
    (s.ie = false → txnPhase t.ctl = true ∨ t.ctl = .postDelay → t.ie = false)

/-- 41_transaction.md R130, R150, R131, R144 at Level T: an EXEC_TXN with its DATA words, whatever the legal outcome. -/
def Obligations.LevelTExecTxn : Prop :=
  ∀ (s : State) (o : TxnOutcome) (d : ScratchDraws) (bytes : List Byte),
    BlockInv s → s.ready = true → s.lineInit = true → 1 ≤ bytes.length → bytes.length ≤ s.cfg.txCap →
    outcomeLegal o = true →
    let reply := match o with | .ok r => r | .timeout => [] | .lineError => []
    ∃ t, stepT (encode (.execTxn bytes.length)) (bytes.map fun b => b.setWidth 32) o d s = .next t ∧
      t.ctl = .idle ∧ t.mode = .execTxn ∧ t.lineInit = true ∧ t.ie = s.ie ∧ t.dir = false ∧ t.out = s.out ∧
      t.rspq = [BitVec.ofNat 32 reply.length] ∧ t.rxcount.toNat = reply.length ∧
      (t.bufValid = true ↔ reply ≠ []) ∧
      t.diag = (match o with | .timeout => .timeout | .lineError => .lineError | .ok _ => .ok) ∧
      t.txlen.toNat = bytes.length ∧
      (∀ i v, bytes[i]? = some v → t.txbufByte i = v) ∧ (∀ i, bytes.length ≤ i → t.txbufByte i = s.txbufByte i) ∧
      (∀ i v, reply[i]? = some v → t.wbufByte i = v) ∧
      (o ≠ .lineError → ∀ i, reply.length ≤ i → t.wbufByte i = s.wbufByte i)

/-- 43_classifier.md R191, R192, R198, 41_transaction.md R150 at Level T: DETECT's response for every legal outcome. -/
def Obligations.LevelTDetect : Prop :=
  ∀ (s : State) (o : TxnOutcome) (d : ScratchDraws),
    s.ready = true → s.lineInit = true → s.cfg.wf = true → s.wbuf.wf Config.bufCap = true → outcomeLegal o = true →
    ∃ t, stepT (encode .detect) [] o d s = .next t ∧
      t.ctl = .idle ∧ t.mode = .detect ∧ t.ie = s.ie ∧ t.dir = false ∧ t.txlen = 1#8 ∧
      t.rspq = [(classCode (match o with
        | .ok [hi, lo, _] =>
          if s.cfg.forceKb then .gcKeyboard else classifyId (hi.setWidth 16 <<< 8 ||| lo.setWidth 16)
        | .ok _ => .unknown
        | .timeout => .absent
        | .lineError => .absent)).setWidth 32]

/-- The faults at Level T: a CMD word's first failing check (60_exceptions.md R213, R214), and the first bad DATA word of an
EXEC_TXN, which leaves the bytes before it in TXBUF and MODE and TXLEN as they were (41_transaction.md R130). LOADCNT, used at
Level L alone, is then unspecified (41_transaction.md R151). -/
def Obligations.LevelTFaults : Prop :=
  ∀ (s : State) (o : TxnOutcome) (d : ScratchDraws), s.ready = true →
    (∀ (w : Word) (data : List Word) (c : FaultCause), checkWord w s = some c →
      stepT w data o d s = .next { s with faultCause := c, faultInfo := w, ctl := .faulted }) ∧
    ∀ (len : Nat) (bytes : List Byte) (bad : Word) (rest : List Word), s.lineInit = true → s.cfg.wf = true →
      len ≤ s.cfg.txCap → bytes.length < len → dataRsv bad ≠ 0#24 →
      stepT (encode (.execTxn len)) ((bytes.map fun b => b.setWidth 32) ++ bad :: rest) o d s =
        .next { s with
          txbuf := s.txbuf.writeList 0 bytes, loadcnt := d.loadcnt
          faultCause := .reservedField, faultInfo := bad, ctl := .faulted }

/-! ### The whole machine -/

/-- 10_state.md R52: its five invariants hold in every reachable state: at every tick of every run from a reset state, whatever
the draws, the host's moves and the device; and of every run from a state that meets the model's invariant. -/
def Obligations.LineInvariantsHold : Prop :=
  (∀ (d : ResetDraws) (s t : State) (n : Nat), s.cfg.wf = true → d.wbuf.wf Config.bufCap = true →
    d.txbuf.wf s.cfg.txCap = true → runTicks n (resetBlock d s) = .next t → LineInvariants t) ∧
  ∀ (s t : State) (n : Nat), BlockInv s → runTicks n s = .next t → LineInvariants t

/-- Every step, a reset tick with any draws among them, keeps the invariant. -/
def Obligations.InvariantKept : Prop :=
  ∀ s t : State, BlockInv s → step s = .next t → BlockInv t

/-- The invariant holds right after reset, whatever the draws, from any state with valid parameters; and so at
State.reset. The values of the draws in State.reset are the model's choice (notes/assumptions/3.md). -/
def Obligations.InvariantAtReset : Prop :=
  BlockInv State.reset ∧
  ∀ (d : ResetDraws) (s : State), s.cfg.wf = true → d.wbuf.wf Config.bufCap = true → d.txbuf.wf s.cfg.txCap = true →
    BlockInv (resetBlock d s)

/-- No run stops: from a state that meets the invariant a step answers a next state. -/
def Obligations.StepsNeverStop : Prop :=
  ∀ s : State, BlockInv s → ∃ t, step s = .next t

/-- 41_transaction.md R152: every transition of STATE in a tick without reset. -/
def Obligations.StateTransitions : Prop :=
  ∀ s t : State, s.rstNow = false → step s = .next t →
    (s.ctl = .idle → s.accepted = none → t.ctl = .idle) ∧
    (∀ w, s.ctl = .idle → s.accepted = some w →
      (∀ c, checkWord w s = some c → t.ctl = .faulted) ∧
      (checkWord w s = none →
        ((fieldOp w = 1#4 ∨ fieldOp w = 3#4 ∨ fieldOp w = 4#4) → t.ctl = .idle) ∧
        (fieldOp w = 2#4 → t.ctl = .load) ∧ (fieldOp w = 5#4 → t.ctl = .tx))) ∧
    (s.ctl = .load → s.accepted = none → t.ctl = .load) ∧
    (∀ w, s.ctl = .load → s.accepted = some w → t.ctl =
      if dataRsv w ≠ 0#24 then .faulted else if s.loadcnt.toNat + 1 = s.txlen.toNat then .tx else .load) ∧
    (s.ctl = .tx → t.ctl =
      if s.timer.toNat + 1 < phaseLen s.cfg s.phase s.txBit ∨ s.phase = .low ∨ s.bitidx ≠ 0#3 ∨
          s.txidx.toNat + 1 < s.txlen.toNat
      then .tx else .txStop) ∧
    (s.ctl = .txStop → t.ctl = if s.timer.toNat + 1 < s.cfg.tstopLow then .txStop else .rxWait) ∧
    (s.ctl = .rxWait → t.ctl =
      if s.edge then .rxBit else if s.timer.toNat + 1 < s.cfg.tRxTimeout then .rxWait else .postDelay) ∧
    (s.ctl = .rxBit → t.ctl =
      if s.timer.toNat + 1 ≠ s.cfg.tSample then .rxBit else if s.nbits.toNat + 1 = Config.nbitsMax then .postDelay
      else .rxGap) ∧
    (s.ctl = .rxGap → t.ctl =
      if s.edge then .rxBit else if s.timer.toNat + 1 < s.cfg.tGap then .rxGap else .postDelay) ∧
    (s.ctl = .postDelay → t.ctl =
      if s.timer.toNat + 1 < s.cfg.tPost then .postDelay else if s.mode = .execTxn then .idle else .classify) ∧
    (s.ctl = .classify → t.ctl = .idle) ∧
    (s.ctl = .faulted → t.ctl = .faulted)

/-- 60_exceptions.md R215: in FAULTED RSPQ is empty and no word is accepted; every register of the block and both status words
keep their values and a held word stays at the port; only reset leaves it. -/
def Obligations.FaultedIsQuiescent : Prop :=
  ∀ s : State, BlockInv s → s.ctl = .faulted →
    s.cmdReady = false ∧ s.rspq = [] ∧
    (s.rstNow = false → ∃ t, step s = .next t ∧
      t = { s with ie := t.ie, rst := t.rst, host := t.host, bus := t.bus, tick := t.tick } ∧
      t.status = s.status ∧ t.faultInfoPort = s.faultInfoPort ∧ (s.cmdWord.isSome = true → t.host.cmd = s.host.cmd)) ∧
    (∀ t, step s = .next t → t.ctl ≠ .faulted → s.rstNow = true)

/-- 60_exceptions.md R217: a fault is taken only in IDLE and LOAD, in the tick that accepts the faulting word, which is then
in FAULT_INFO. -/
def Obligations.FaultsOnlyOnAcceptedWords : Prop :=
  ∀ s t : State, step s = .next t → t.ctl = .faulted → s.ctl ≠ .faulted →
    (s.ctl = .idle ∨ s.ctl = .load) ∧ s.accepted = some t.faultInfo ∧ t.faultCause ≠ .none ∧
    (s.ieUntouched → t.ie = s.ie)

/-- 20_memory.md R66, R67: in a tick without reset WBUF is written only in the tick of RX_BIT that takes the last bit of a byte
inside the buffer, and there at that byte alone; TXBUF only in the tick that accepts a good DATA word, at LOADCNT alone, or a
DETECT that passes its checks, at byte 0 alone. -/
def Obligations.ArraysWrittenOnlyByTheirWriters : Prop :=
  ∀ s t : State, BlockInv s → s.rstNow = false → step s = .next t →
    ((s.ctl ≠ .rxBit ∨ s.timer.toNat + 1 ≠ s.cfg.tSample ∨ (s.nbits.toNat + 1) % 8 ≠ 0 ∨
        Config.bufCap < (s.nbits.toNat + 1) / 8) →
      ∀ a, t.wbufByte a = s.wbufByte a) ∧
    (∀ a, a ≠ (s.nbits.toNat + 1) / 8 - 1 → t.wbufByte a = s.wbufByte a) ∧
    (s.accepted = none → ∀ a, t.txbufByte a = s.txbufByte a) ∧
    (s.ctl = .load → ∀ a, a ≠ s.loadcnt.toNat → t.txbufByte a = s.txbufByte a) ∧
    (∀ w, s.ctl = .load → s.accepted = some w → dataRsv w ≠ 0#24 → ∀ a, t.txbufByte a = s.txbufByte a) ∧
    (s.ctl = .idle → (s.accepted ≠ some 5#32 ∨ s.lineInit = false) → ∀ a, t.txbufByte a = s.txbufByte a) ∧
    (s.ctl = .idle → ∀ a, a ≠ 0 → t.txbufByte a = s.txbufByte a)

/-- 10_state.md R49: the writers of each register, in a tick without reset. STATE's are StateTransitions', IE's are
InterruptEnableWriters', and the arrays' are ArraysWrittenOnlyByTheirWriters'. -/
def Obligations.WritersOfRegisters : Prop :=
  ∀ s t : State, s.rstNow = false → step s = .next t →
    -- MODE, TXLEN, LOADCNT
    (s.accepted = none → t.txlen = s.txlen ∧ t.loadcnt = s.loadcnt ∧ t.mode = s.mode) ∧
    (s.ctl = .load → t.txlen = s.txlen ∧ t.mode = s.mode) ∧
    -- LINE_INIT, OUT, DBG_DIR, DBG_OUT, DIR
    (s.accepted ≠ some 1#32 ∨ s.ctl ≠ .idle →
      t.lineInit = s.lineInit ∧ t.out = s.out ∧ t.dbgDir = s.dbgDir ∧ t.dbgOut = s.dbgOut ∧
      (s.ctl ≠ .tx → s.ctl ≠ .txStop → t.ctl ≠ .tx → t.dir = s.dir)) ∧
    -- BUF_VALID, RXCOUNT, DIAG, SAVED_IE
    ((s.ctl = t.ctl ∨ (t.ctl ≠ .tx ∧ t.ctl ≠ .postDelay)) → t.bufValid = s.bufValid ∧ t.rxcount = s.rxcount) ∧
    ((s.ctl = t.ctl ∨ t.ctl ≠ .postDelay) → t.diag = s.diag) ∧
    ((s.ctl = t.ctl ∨ t.ctl ≠ .tx) → t.savedIe = s.savedIe) ∧
    -- FAULT_CAUSE, FAULT_INFO
    ((s.ctl = .faulted ∨ t.ctl ≠ .faulted) → t.faultCause = s.faultCause ∧ t.faultInfo = s.faultInfo) ∧
    -- TXIDX, BITIDX, PHASE
    (s.ctl ≠ .tx → t.ctl ≠ .tx → t.txidx = s.txidx ∧ t.bitidx = s.bitidx ∧ t.phase = s.phase) ∧
    -- NBITS, SHIFT, PREV, TIMER
    (s.ctl ≠ .rxBit → t.ctl ≠ .tx → t.nbits = s.nbits ∧ t.shift = s.shift) ∧
    (rxPhase s.ctl = false → s.ctl ≠ .txStop → t.prev = s.prev) ∧
    ((s.ctl = .idle ∨ s.ctl = .load ∨ s.ctl = .classify ∨ s.ctl = .faulted) → t.ctl ≠ .tx → t.timer = s.timer) ∧
    -- RSPQ: appended to by a read, by POST_DELAY's end and by CLASSIFY; the host removes the head
    ((∀ w, s.accepted = some w → s.ctl = .load ∨ (fieldOp w ≠ 3#4 ∧ fieldOp w ≠ 4#4)) →
      (s.ctl = .postDelay → t.ctl ≠ .idle) → s.ctl ≠ .classify →
      t.rspq = if s.pops then s.rspq.tail else s.rspq) ∧
    -- the parameters
    t.cfg = s.cfg

/-- 41_transaction.md R142: with the host writing no IE, the block writes IE only at TXN_START, which saves and clears it,
and at TXN_END, which restores it. -/
def Obligations.InterruptEnableWriters : Prop :=
  ∀ s t : State, s.ieUntouched → step s = .next t →
    t.ie = if s.rstNow = false ∧ txnPhase s.ctl = false ∧ t.ctl = .tx then false
      else if s.rstNow = false ∧ txnPhase s.ctl = true ∧ t.ctl = .postDelay then s.savedIe
      else s.ie
end

