-- ==== Sys2Proof/Laws/Config.lean ====
section
/-! SUPPORT. The bounds that valid parameters give (00_scope.md R11). -/

namespace Sys2Proof.Machine

/-- Every bound of valid parameters, as facts. -/
theorem Config.wf_bounds {c : Config} (h : c.wf = true) :
    1 ≤ c.txCap ∧ c.txCap ≤ 255 ∧ 0 < c.tickNs ∧
    1 ≤ c.t0Low ∧ c.t0Low ≤ 65535 ∧ 1 ≤ c.t0High ∧ c.t0High ≤ 65535 ∧
    1 ≤ c.t1Low ∧ c.t1Low ≤ 65535 ∧ 1 ≤ c.t1High ∧ c.t1High ≤ 65535 ∧
    1 ≤ c.tstopLow ∧ c.tstopLow ≤ 65535 ∧ 1 ≤ c.tSample ∧ c.tSample < c.tGap ∧ c.tGap ≤ 65535 ∧
    1 ≤ c.tRxTimeout ∧ c.tRxTimeout ≤ 65535 ∧ c.tPost ≤ 65535 := by
  simp only [Config.wf, Bool.and_eq_true, decide_eq_true_eq] at h
  omega

/-- The post delay is not empty (41_transaction.md R145). -/
theorem Config.tPost_pos {c : Config} (h : c.wf = true) : 1 ≤ c.tPost := by
  simp only [Config.wf, Bool.and_eq_true, decide_eq_true_eq] at h
  have hp := h.1.2
  by_contra h0
  have : c.tPost = 0 := by omega
  rw [this, Nat.zero_mul] at hp
  exact absurd hp (by decide)

/-- Each half of a bit cell lasts at least one tick and fits TIMER (40_line_controller.md R104). -/
theorem phaseLen_bounds {c : Config} (h : c.wf = true) (p : Phase) (b : Bool) :
    1 ≤ phaseLen c p b ∧ phaseLen c p b ≤ 65535 := by
  have := Config.wf_bounds h
  unfold phaseLen
  cases p <;> cases b <;> simp <;> omega

end Sys2Proof.Machine
end

