-- ==== Sys2Proof/Laws/Encoding.lean ====
section
/-! SUPPORT. The fields of a packed command word and the word of its fields (30_encoding.md R81). -/

namespace Sys2Proof

/-- A bit of a packed word lies in one field. -/
theorem packCmd_getLsbD (r b : BitVec 8) (a : BitVec 12) (o : BitVec 4) (i : Nat) :
    (packCmd r b a o).getLsbD i =
      if i < 4 then o.getLsbD i else if i < 16 then a.getLsbD (i - 4) else if i < 24 then b.getLsbD (i - 16)
      else r.getLsbD (i - 24) := by
  have h : (packCmd r b a o).getLsbD i = (r ++ b ++ a ++ o).getLsbD i := rfl
  rw [h, BitVec.getLsbD_append, BitVec.getLsbD_append, BitVec.getLsbD_append]
  have h1 : i - 4 - 12 = i - 16 := by omega
  have h2 : i - 16 - 8 = i - 24 := by omega
  have h3 : ¬ i < 4 → (i - 4 < 12 ↔ i < 16) := by omega
  have h4 : ¬ i < 16 → (i - 16 < 8 ↔ i < 24) := by omega
  by_cases c1 : i < 4
  · simp [c1]
  · by_cases c2 : i < 16
    · simp [c1, c2, h3 c1]
    · simp [c1, c2, h3 c1, h1, h2, h4 c2]

@[simp] theorem fieldOp_packCmd (r b : BitVec 8) (a : BitVec 12) (o : BitVec 4) : fieldOp (packCmd r b a o) = o := by
  apply BitVec.eq_of_getLsbD_eq
  intro i hi
  simp only [fieldOp, BitVec.getLsbD_extractLsb', packCmd_getLsbD]
  simp [hi]

@[simp] theorem fieldA_packCmd (r b : BitVec 8) (a : BitVec 12) (o : BitVec 4) : fieldA (packCmd r b a o) = a := by
  apply BitVec.eq_of_getLsbD_eq
  intro i hi
  have h2 : 4 + i < 16 := by omega
  simp only [fieldA, BitVec.getLsbD_extractLsb', packCmd_getLsbD]
  simp [hi, h2]

@[simp] theorem fieldB_packCmd (r b : BitVec 8) (a : BitVec 12) (o : BitVec 4) : fieldB (packCmd r b a o) = b := by
  apply BitVec.eq_of_getLsbD_eq
  intro i hi
  have h1 : ¬ 16 + i < 4 := by omega
  have h3 : 16 + i < 24 := by omega
  simp only [fieldB, BitVec.getLsbD_extractLsb', packCmd_getLsbD]
  simp [hi, h1, h3]

@[simp] theorem fieldRsv_packCmd (r b : BitVec 8) (a : BitVec 12) (o : BitVec 4) : fieldRsv (packCmd r b a o) = r := by
  apply BitVec.eq_of_getLsbD_eq
  intro i hi
  have h1 : ¬ 24 + i < 4 := by omega
  have h2 : ¬ 24 + i < 16 := by omega
  simp only [fieldRsv, BitVec.getLsbD_extractLsb', packCmd_getLsbD]
  simp [hi, h1, h2]

/-- A word is its four fields. -/
theorem packCmd_fields (w : Word) : packCmd (fieldRsv w) (fieldB w) (fieldA w) (fieldOp w) = w := by
  apply BitVec.eq_of_getLsbD_eq
  intro i hi
  simp only [packCmd_getLsbD, fieldRsv, fieldB, fieldA, fieldOp, BitVec.getLsbD_extractLsb']
  by_cases h1 : i < 4
  · simp [h1]
  · by_cases h2 : i < 16
    · have h : i - 4 < 12 := by omega
      have : 4 + (i - 4) = i := by omega
      simp [h1, h2, h, this]
    · by_cases h3 : i < 24
      · have h : i - 16 < 8 := by omega
        have : 16 + (i - 16) = i := by omega
        simp [h1, h2, h3, h, this]
      · have h : i - 24 < 8 := by omega
        have : 24 + (i - 24) = i := by omega
        simp [h1, h2, h3, h, this]

/-- Every bit pattern of an opcode is one of the sixteen. -/
theorem op_lt (w : Word) : (fieldOp w).toNat < 16 := (fieldOp w).isLt

/-- The opcode of a decoded word, and its fields: what `decode` answers and when. -/
theorem decode_ok {w : Word} {i : Instr} (h : decode w = .ok i) :
    (i = .initLine ∧ fieldOp w = 1#4 ∧ fieldA w = 0#12 ∧ fieldB w = 0#8 ∧ fieldRsv w = 0#8) ∨
    (i = .execTxn (fieldA w).toNat ∧ fieldOp w = 2#4 ∧ fieldB w = 0#8 ∧ fieldRsv w = 0#8) ∨
    (i = .readByte (fieldA w).toNat ∧ fieldOp w = 3#4 ∧ fieldB w = 0#8 ∧ fieldRsv w = 0#8) ∨
    (i = .readBytes (fieldA w).toNat (fieldB w).toNat ∧ fieldOp w = 4#4 ∧ fieldRsv w = 0#8) ∨
    (i = .detect ∧ fieldOp w = 5#4 ∧ fieldA w = 0#12 ∧ fieldB w = 0#8 ∧ fieldRsv w = 0#8) := by
  have op : ∀ k : Nat, k < 16 → (fieldOp w).toNat = k → fieldOp w = BitVec.ofNat 4 k := by
    intro k hk hw
    apply BitVec.eq_of_toNat_eq
    simp [hw, Nat.mod_eq_of_lt hk]
  unfold decode at h
  split at h
  · next hw =>
    split at h
    · next hc => cases h; exact .inl ⟨rfl, op 1 (by omega) hw, hc⟩
    · cases h
  · next hw =>
    split at h
    · next hc => cases h; exact .inr (.inl ⟨rfl, op 2 (by omega) hw, hc⟩)
    · cases h
  · next hw =>
    split at h
    · next hc => cases h; exact .inr (.inr (.inl ⟨rfl, op 3 (by omega) hw, hc⟩))
    · cases h
  · next hw =>
    split at h
    · next hc => cases h; exact .inr (.inr (.inr (.inl ⟨rfl, op 4 (by omega) hw, hc⟩)))
    · cases h
  · next hw =>
    split at h
    · next hc => cases h; exact .inr (.inr (.inr (.inr ⟨rfl, op 5 (by omega) hw, hc⟩)))
    · cases h
  · cases h

end Sys2Proof
end

