-- ==== Sys2Proof/Laws/Memory.lean ====
section
/-! SUPPORT. The laws of the byte arrays: read after write, and that every operation keeps the canonical form. -/

namespace Sys2Proof.Machine

@[simp] theorem Memory.read_nil (a : Nat) : Memory.read [] a = Memory.unlisted := rfl

@[simp] theorem Memory.wfBetween_nil (hi lo : Nat) : Memory.wfBetween hi lo [] = true := rfl

/-- The canonical form of a non-empty array, as facts. -/
theorem Memory.wfBetween_cons {hi lo a : Nat} {v : Byte} {m : Memory} :
    Memory.wfBetween hi lo ((a, v) :: m) = true ↔
      lo ≤ a ∧ a < hi ∧ v ≠ Memory.unlisted ∧ Memory.wfBetween hi (a + 1) m = true := by
  simp [Memory.wfBetween, and_assoc]

/-- A lower bound may be lowered. -/
theorem Memory.wfBetween_mono {hi lo lo' : Nat} {m : Memory} (h : lo' ≤ lo) (hm : Memory.wfBetween hi lo m = true) :
    Memory.wfBetween hi lo' m = true := by
  cases m with
  | nil => rfl
  | cons e m =>
    obtain ⟨a, v⟩ := e
    rw [Memory.wfBetween_cons] at hm ⊢
    exact ⟨h.trans hm.1, hm.2⟩

/-- Below the lower bound nothing is listed. -/
theorem Memory.read_below {hi lo a : Nat} {m : Memory} (hm : Memory.wfBetween hi lo m = true) (h : a < lo) :
    Memory.read m a = Memory.unlisted := by
  induction m generalizing lo with
  | nil => rfl
  | cons e m ih =>
    obtain ⟨b, v⟩ := e
    rw [Memory.wfBetween_cons] at hm
    have hne : a ≠ b := by omega
    simp only [Memory.read, if_neg hne]
    exact ih hm.2.2.2 (by omega)

/-- Above the capacity nothing is listed. -/
theorem Memory.read_above {hi lo a : Nat} {m : Memory} (hm : Memory.wfBetween hi lo m = true) (h : hi ≤ a) :
    Memory.read m a = Memory.unlisted := by
  induction m generalizing lo with
  | nil => rfl
  | cons e m ih =>
    obtain ⟨b, v⟩ := e
    rw [Memory.wfBetween_cons] at hm
    have hne : a ≠ b := by omega
    simp only [Memory.read, if_neg hne]
    exact ih hm.2.2.2

/-- A read after a write: the byte written at its address, the old byte elsewhere. -/
theorem Memory.read_write {hi lo : Nat} {m : Memory} (hm : Memory.wfBetween hi lo m = true) (a b : Nat) (v : Byte) :
    Memory.read (Memory.write m a v) b = if b = a then v else Memory.read m b := by
  induction m generalizing lo with
  | nil =>
    by_cases hv : v = Memory.unlisted <;> by_cases hb : b = a <;> simp [Memory.write, Memory.read, hv, hb]
  | cons e m ih =>
    obtain ⟨c, w⟩ := e
    have hm' := Memory.wfBetween_cons.mp hm
    have below : a ≤ c → Memory.read m a = Memory.unlisted := fun h => Memory.read_below hm'.2.2.2 (by omega)
    simp only [Memory.write]
    by_cases h1 : a < c
    · have hne : a ≠ c := by omega
      by_cases hv : v = Memory.unlisted <;> by_cases hb : b = a
      · simp [h1, hv, hb, Memory.read, hne, below h1.le]
      · simp [h1, hv, hb]
      · simp [h1, hv, hb, Memory.read]
      · simp [h1, hv, hb, Memory.read]
    · by_cases h2 : a = c
      · subst h2
        by_cases hv : v = Memory.unlisted <;> by_cases hb : b = a
        · simp [hv, hb, below le_rfl]
        · simp [hv, hb, Memory.read]
        · simp [hv, hb, Memory.read]
        · simp [hv, hb, Memory.read]
      · simp only [if_neg h1, if_neg h2, Memory.read, ih hm'.2.2.2]
        by_cases hb : b = c
        · have : b ≠ a := by omega
          simp [hb]
          omega
        · simp [hb]

/-- A write inside the bounds keeps the canonical form. -/
theorem Memory.write_wfBetween {hi lo a : Nat} {m : Memory} {v : Byte} (hm : Memory.wfBetween hi lo m = true)
    (hlo : lo ≤ a) (hhi : a < hi) : Memory.wfBetween hi lo (Memory.write m a v) = true := by
  induction m generalizing lo with
  | nil => by_cases hv : v = Memory.unlisted <;> simp [Memory.write, hv, Memory.wfBetween_cons, hlo, hhi]
  | cons e m ih =>
    obtain ⟨c, w⟩ := e
    have hm' := Memory.wfBetween_cons.mp hm
    simp only [Memory.write]
    by_cases h1 : a < c
    · by_cases hv : v = Memory.unlisted
      · simpa [h1, hv] using hm
      · simp only [if_pos h1, if_neg hv]
        exact Memory.wfBetween_cons.mpr ⟨hlo, hhi, hv, Memory.wfBetween_cons.mpr ⟨h1, hm'.2⟩⟩
    · by_cases h2 : a = c
      · subst h2
        by_cases hv : v = Memory.unlisted
        · simpa [hv] using Memory.wfBetween_mono (by omega) hm'.2.2.2
        · simpa [hv] using Memory.wfBetween_cons.mpr ⟨hlo, hhi, hv, hm'.2.2.2⟩
      · simp only [if_neg h1, if_neg h2]
        exact Memory.wfBetween_cons.mpr ⟨hm'.1, hm'.2.1, hm'.2.2.1, ih hm'.2.2.2 (by omega)⟩

/-- `MemWrite` keeps the canonical form. -/
theorem Memory.write_wf {cap a : Nat} {m : Memory} {v : Byte} (hm : m.wf cap = true) (ha : a < cap) :
    (Memory.write m a v).wf cap = true :=
  Memory.write_wfBetween hm (Nat.zero_le a) ha

/-- `fill` keeps the canonical form. -/
theorem Memory.fill_wf (f : Nat → Byte) {n cap : Nat} (h : n ≤ cap) : (Memory.fill f n).wf cap = true := by
  induction n with
  | zero => rfl
  | succ n ih => exact Memory.write_wf (ih (by omega)) (by omega)

/-- A byte of `fill`. -/
theorem Memory.read_fill (f : Nat → Byte) (n a : Nat) :
    Memory.read (Memory.fill f n) a = if a < n then f a else Memory.unlisted := by
  induction n with
  | zero => simp [Memory.fill]
  | succ n ih =>
    have hw : Memory.wfBetween n 0 (Memory.fill f n) = true := Memory.fill_wf f le_rfl
    rw [Memory.fill, Memory.read_write hw, ih]
    by_cases h1 : a = n
    · simp [h1]
    · have : a < n + 1 ↔ a < n := by omega
      simp [h1, this]

/-- `writeList` keeps the canonical form. -/
theorem Memory.writeList_wf {cap : Nat} (vs : List Byte) {m : Memory} {a : Nat} (hm : m.wf cap = true)
    (h : a + vs.length ≤ cap) : (Memory.writeList m a vs).wf cap = true := by
  induction vs generalizing m a with
  | nil => exact hm
  | cons v vs ih =>
    have hl : a + (vs.length + 1) ≤ cap := h
    exact ih (Memory.write_wf hm (by omega)) (by omega)

/-- `writeList` of a list with one byte more. -/
theorem Memory.writeList_snoc (m : Memory) (a : Nat) (vs : List Byte) (v : Byte) :
    Memory.writeList m a (vs ++ [v]) = Memory.write (Memory.writeList m a vs) (a + vs.length) v := by
  induction vs generalizing m a with
  | nil => rfl
  | cons u us ih =>
    have : a + (us.length + 1) = a + 1 + us.length := by omega
    simp only [List.cons_append, Memory.writeList, List.length_cons, this]
    exact ih _ _

@[simp] theorem Memory.readList_length (m : Memory) (a n : Nat) : (Memory.readList m a n).length = n := by
  induction n generalizing a with
  | zero => rfl
  | succ n ih => simp [Memory.readList, ih]

/-- A byte of `MemRead`. -/
theorem Memory.readList_get (m : Memory) (a n i : Nat) (h : i < n) :
    (Memory.readList m a n)[i]? = some (Memory.read m (a + i)) := by
  induction n generalizing a i with
  | zero => omega
  | succ n ih =>
    cases i with
    | zero => simp [Memory.readList]
    | succ i =>
      simp only [Memory.readList, List.getElem?_cons_succ]
      rw [ih (a + 1) i (by omega)]
      congr 2
      omega

end Sys2Proof.Machine
end

