-- ==== Sys2Proof/Laws/State.lean ====
section
/-! SUPPORT. One lemma per field per update of State, each true by unfolding, so that no proof unfolds a record update. -/

namespace Sys2Proof.Machine

section

variable (s : State)

/-! ### `respond` appends one word (00_scope.md R14) -/

@[simp] theorem respond_cfg (v : Byte) : (respond v s).cfg = s.cfg := rfl
@[simp] theorem respond_ctl (v : Byte) : (respond v s).ctl = s.ctl := rfl
@[simp] theorem respond_mode (v : Byte) : (respond v s).mode = s.mode := rfl
@[simp] theorem respond_lineInit (v : Byte) : (respond v s).lineInit = s.lineInit := rfl
@[simp] theorem respond_bufValid (v : Byte) : (respond v s).bufValid = s.bufValid := rfl
@[simp] theorem respond_rxcount (v : Byte) : (respond v s).rxcount = s.rxcount := rfl
@[simp] theorem respond_diag (v : Byte) : (respond v s).diag = s.diag := rfl
@[simp] theorem respond_faultCause (v : Byte) : (respond v s).faultCause = s.faultCause := rfl
@[simp] theorem respond_faultInfo (v : Byte) : (respond v s).faultInfo = s.faultInfo := rfl
@[simp] theorem respond_dir (v : Byte) : (respond v s).dir = s.dir := rfl
@[simp] theorem respond_out (v : Byte) : (respond v s).out = s.out := rfl
@[simp] theorem respond_dbgDir (v : Byte) : (respond v s).dbgDir = s.dbgDir := rfl
@[simp] theorem respond_dbgOut (v : Byte) : (respond v s).dbgOut = s.dbgOut := rfl
@[simp] theorem respond_txlen (v : Byte) : (respond v s).txlen = s.txlen := rfl
@[simp] theorem respond_loadcnt (v : Byte) : (respond v s).loadcnt = s.loadcnt := rfl
@[simp] theorem respond_txidx (v : Byte) : (respond v s).txidx = s.txidx := rfl
@[simp] theorem respond_bitidx (v : Byte) : (respond v s).bitidx = s.bitidx := rfl
@[simp] theorem respond_phase (v : Byte) : (respond v s).phase = s.phase := rfl
@[simp] theorem respond_txbuf (v : Byte) : (respond v s).txbuf = s.txbuf := rfl
@[simp] theorem respond_nbits (v : Byte) : (respond v s).nbits = s.nbits := rfl
@[simp] theorem respond_shift (v : Byte) : (respond v s).shift = s.shift := rfl
@[simp] theorem respond_prev (v : Byte) : (respond v s).prev = s.prev := rfl
@[simp] theorem respond_wbuf (v : Byte) : (respond v s).wbuf = s.wbuf := rfl
@[simp] theorem respond_timer (v : Byte) : (respond v s).timer = s.timer := rfl
@[simp] theorem respond_savedIe (v : Byte) : (respond v s).savedIe = s.savedIe := rfl
@[simp] theorem respond_rspq (v : Byte) : (respond v s).rspq = s.rspq ++ [v.setWidth 32] := rfl
@[simp] theorem respond_ie (v : Byte) : (respond v s).ie = s.ie := rfl
@[simp] theorem respond_rst (v : Byte) : (respond v s).rst = s.rst := rfl
@[simp] theorem respond_host (v : Byte) : (respond v s).host = s.host := rfl
@[simp] theorem respond_bus (v : Byte) : (respond v s).bus = s.bus := rfl
@[simp] theorem respond_tick (v : Byte) : (respond v s).tick = s.tick := rfl

/-! ### fault entry writes three registers (60_exceptions.md R214) -/

@[simp] theorem raiseFault_cfg (c : FaultCause) (w : Word) : (raiseFault c w s).cfg = s.cfg := rfl
@[simp] theorem raiseFault_ctl (c : FaultCause) (w : Word) : (raiseFault c w s).ctl = .faulted := rfl
@[simp] theorem raiseFault_mode (c : FaultCause) (w : Word) : (raiseFault c w s).mode = s.mode := rfl
@[simp] theorem raiseFault_lineInit (c : FaultCause) (w : Word) : (raiseFault c w s).lineInit = s.lineInit := rfl
@[simp] theorem raiseFault_bufValid (c : FaultCause) (w : Word) : (raiseFault c w s).bufValid = s.bufValid := rfl
@[simp] theorem raiseFault_rxcount (c : FaultCause) (w : Word) : (raiseFault c w s).rxcount = s.rxcount := rfl
@[simp] theorem raiseFault_diag (c : FaultCause) (w : Word) : (raiseFault c w s).diag = s.diag := rfl
@[simp] theorem raiseFault_faultCause (c : FaultCause) (w : Word) : (raiseFault c w s).faultCause = c := rfl
@[simp] theorem raiseFault_faultInfo (c : FaultCause) (w : Word) : (raiseFault c w s).faultInfo = w := rfl
@[simp] theorem raiseFault_dir (c : FaultCause) (w : Word) : (raiseFault c w s).dir = s.dir := rfl
@[simp] theorem raiseFault_out (c : FaultCause) (w : Word) : (raiseFault c w s).out = s.out := rfl
@[simp] theorem raiseFault_dbgDir (c : FaultCause) (w : Word) : (raiseFault c w s).dbgDir = s.dbgDir := rfl
@[simp] theorem raiseFault_dbgOut (c : FaultCause) (w : Word) : (raiseFault c w s).dbgOut = s.dbgOut := rfl
@[simp] theorem raiseFault_txlen (c : FaultCause) (w : Word) : (raiseFault c w s).txlen = s.txlen := rfl
@[simp] theorem raiseFault_loadcnt (c : FaultCause) (w : Word) : (raiseFault c w s).loadcnt = s.loadcnt := rfl
@[simp] theorem raiseFault_txidx (c : FaultCause) (w : Word) : (raiseFault c w s).txidx = s.txidx := rfl
@[simp] theorem raiseFault_bitidx (c : FaultCause) (w : Word) : (raiseFault c w s).bitidx = s.bitidx := rfl
@[simp] theorem raiseFault_phase (c : FaultCause) (w : Word) : (raiseFault c w s).phase = s.phase := rfl
@[simp] theorem raiseFault_txbuf (c : FaultCause) (w : Word) : (raiseFault c w s).txbuf = s.txbuf := rfl
@[simp] theorem raiseFault_nbits (c : FaultCause) (w : Word) : (raiseFault c w s).nbits = s.nbits := rfl
@[simp] theorem raiseFault_shift (c : FaultCause) (w : Word) : (raiseFault c w s).shift = s.shift := rfl
@[simp] theorem raiseFault_prev (c : FaultCause) (w : Word) : (raiseFault c w s).prev = s.prev := rfl
@[simp] theorem raiseFault_wbuf (c : FaultCause) (w : Word) : (raiseFault c w s).wbuf = s.wbuf := rfl
@[simp] theorem raiseFault_timer (c : FaultCause) (w : Word) : (raiseFault c w s).timer = s.timer := rfl
@[simp] theorem raiseFault_savedIe (c : FaultCause) (w : Word) : (raiseFault c w s).savedIe = s.savedIe := rfl
@[simp] theorem raiseFault_rspq (c : FaultCause) (w : Word) : (raiseFault c w s).rspq = s.rspq := rfl
@[simp] theorem raiseFault_ie (c : FaultCause) (w : Word) : (raiseFault c w s).ie = s.ie := rfl
@[simp] theorem raiseFault_rst (c : FaultCause) (w : Word) : (raiseFault c w s).rst = s.rst := rfl
@[simp] theorem raiseFault_host (c : FaultCause) (w : Word) : (raiseFault c w s).host = s.host := rfl
@[simp] theorem raiseFault_bus (c : FaultCause) (w : Word) : (raiseFault c w s).bus = s.bus := rfl
@[simp] theorem raiseFault_tick (c : FaultCause) (w : Word) : (raiseFault c w s).tick = s.tick := rfl

/-! ### a WBUF write -/

@[simp] theorem putWbuf_cfg (i : Nat) (v : Byte) : (putWbuf i v s).cfg = s.cfg := rfl
@[simp] theorem putWbuf_ctl (i : Nat) (v : Byte) : (putWbuf i v s).ctl = s.ctl := rfl
@[simp] theorem putWbuf_mode (i : Nat) (v : Byte) : (putWbuf i v s).mode = s.mode := rfl
@[simp] theorem putWbuf_lineInit (i : Nat) (v : Byte) : (putWbuf i v s).lineInit = s.lineInit := rfl
@[simp] theorem putWbuf_bufValid (i : Nat) (v : Byte) : (putWbuf i v s).bufValid = s.bufValid := rfl
@[simp] theorem putWbuf_rxcount (i : Nat) (v : Byte) : (putWbuf i v s).rxcount = s.rxcount := rfl
@[simp] theorem putWbuf_diag (i : Nat) (v : Byte) : (putWbuf i v s).diag = s.diag := rfl
@[simp] theorem putWbuf_faultCause (i : Nat) (v : Byte) : (putWbuf i v s).faultCause = s.faultCause := rfl
@[simp] theorem putWbuf_faultInfo (i : Nat) (v : Byte) : (putWbuf i v s).faultInfo = s.faultInfo := rfl
@[simp] theorem putWbuf_dir (i : Nat) (v : Byte) : (putWbuf i v s).dir = s.dir := rfl
@[simp] theorem putWbuf_out (i : Nat) (v : Byte) : (putWbuf i v s).out = s.out := rfl
@[simp] theorem putWbuf_dbgDir (i : Nat) (v : Byte) : (putWbuf i v s).dbgDir = s.dbgDir := rfl
@[simp] theorem putWbuf_dbgOut (i : Nat) (v : Byte) : (putWbuf i v s).dbgOut = s.dbgOut := rfl
@[simp] theorem putWbuf_txlen (i : Nat) (v : Byte) : (putWbuf i v s).txlen = s.txlen := rfl
@[simp] theorem putWbuf_loadcnt (i : Nat) (v : Byte) : (putWbuf i v s).loadcnt = s.loadcnt := rfl
@[simp] theorem putWbuf_txidx (i : Nat) (v : Byte) : (putWbuf i v s).txidx = s.txidx := rfl
@[simp] theorem putWbuf_bitidx (i : Nat) (v : Byte) : (putWbuf i v s).bitidx = s.bitidx := rfl
@[simp] theorem putWbuf_phase (i : Nat) (v : Byte) : (putWbuf i v s).phase = s.phase := rfl
@[simp] theorem putWbuf_txbuf (i : Nat) (v : Byte) : (putWbuf i v s).txbuf = s.txbuf := rfl
@[simp] theorem putWbuf_nbits (i : Nat) (v : Byte) : (putWbuf i v s).nbits = s.nbits := rfl
@[simp] theorem putWbuf_shift (i : Nat) (v : Byte) : (putWbuf i v s).shift = s.shift := rfl
@[simp] theorem putWbuf_prev (i : Nat) (v : Byte) : (putWbuf i v s).prev = s.prev := rfl
@[simp] theorem putWbuf_wbuf (i : Nat) (v : Byte) : (putWbuf i v s).wbuf = s.wbuf.write i v := rfl
@[simp] theorem putWbuf_timer (i : Nat) (v : Byte) : (putWbuf i v s).timer = s.timer := rfl
@[simp] theorem putWbuf_savedIe (i : Nat) (v : Byte) : (putWbuf i v s).savedIe = s.savedIe := rfl
@[simp] theorem putWbuf_rspq (i : Nat) (v : Byte) : (putWbuf i v s).rspq = s.rspq := rfl
@[simp] theorem putWbuf_ie (i : Nat) (v : Byte) : (putWbuf i v s).ie = s.ie := rfl
@[simp] theorem putWbuf_rst (i : Nat) (v : Byte) : (putWbuf i v s).rst = s.rst := rfl
@[simp] theorem putWbuf_host (i : Nat) (v : Byte) : (putWbuf i v s).host = s.host := rfl
@[simp] theorem putWbuf_bus (i : Nat) (v : Byte) : (putWbuf i v s).bus = s.bus := rfl
@[simp] theorem putWbuf_tick (i : Nat) (v : Byte) : (putWbuf i v s).tick = s.tick := rfl

/-! ### a TIMER write -/

@[simp] theorem setTimer_cfg (n : Nat) : (setTimer n s).cfg = s.cfg := rfl
@[simp] theorem setTimer_ctl (n : Nat) : (setTimer n s).ctl = s.ctl := rfl
@[simp] theorem setTimer_mode (n : Nat) : (setTimer n s).mode = s.mode := rfl
@[simp] theorem setTimer_lineInit (n : Nat) : (setTimer n s).lineInit = s.lineInit := rfl
@[simp] theorem setTimer_bufValid (n : Nat) : (setTimer n s).bufValid = s.bufValid := rfl
@[simp] theorem setTimer_rxcount (n : Nat) : (setTimer n s).rxcount = s.rxcount := rfl
@[simp] theorem setTimer_diag (n : Nat) : (setTimer n s).diag = s.diag := rfl
@[simp] theorem setTimer_faultCause (n : Nat) : (setTimer n s).faultCause = s.faultCause := rfl
@[simp] theorem setTimer_faultInfo (n : Nat) : (setTimer n s).faultInfo = s.faultInfo := rfl
@[simp] theorem setTimer_dir (n : Nat) : (setTimer n s).dir = s.dir := rfl
@[simp] theorem setTimer_out (n : Nat) : (setTimer n s).out = s.out := rfl
@[simp] theorem setTimer_dbgDir (n : Nat) : (setTimer n s).dbgDir = s.dbgDir := rfl
@[simp] theorem setTimer_dbgOut (n : Nat) : (setTimer n s).dbgOut = s.dbgOut := rfl
@[simp] theorem setTimer_txlen (n : Nat) : (setTimer n s).txlen = s.txlen := rfl
@[simp] theorem setTimer_loadcnt (n : Nat) : (setTimer n s).loadcnt = s.loadcnt := rfl
@[simp] theorem setTimer_txidx (n : Nat) : (setTimer n s).txidx = s.txidx := rfl
@[simp] theorem setTimer_bitidx (n : Nat) : (setTimer n s).bitidx = s.bitidx := rfl
@[simp] theorem setTimer_phase (n : Nat) : (setTimer n s).phase = s.phase := rfl
@[simp] theorem setTimer_txbuf (n : Nat) : (setTimer n s).txbuf = s.txbuf := rfl
@[simp] theorem setTimer_nbits (n : Nat) : (setTimer n s).nbits = s.nbits := rfl
@[simp] theorem setTimer_shift (n : Nat) : (setTimer n s).shift = s.shift := rfl
@[simp] theorem setTimer_prev (n : Nat) : (setTimer n s).prev = s.prev := rfl
@[simp] theorem setTimer_wbuf (n : Nat) : (setTimer n s).wbuf = s.wbuf := rfl
@[simp] theorem setTimer_timer (n : Nat) : (setTimer n s).timer = BitVec.ofNat 16 n := rfl
@[simp] theorem setTimer_savedIe (n : Nat) : (setTimer n s).savedIe = s.savedIe := rfl
@[simp] theorem setTimer_rspq (n : Nat) : (setTimer n s).rspq = s.rspq := rfl
@[simp] theorem setTimer_ie (n : Nat) : (setTimer n s).ie = s.ie := rfl
@[simp] theorem setTimer_rst (n : Nat) : (setTimer n s).rst = s.rst := rfl
@[simp] theorem setTimer_host (n : Nat) : (setTimer n s).host = s.host := rfl
@[simp] theorem setTimer_bus (n : Nat) : (setTimer n s).bus = s.bus := rfl
@[simp] theorem setTimer_tick (n : Nat) : (setTimer n s).tick = s.tick := rfl

/-! ### DRIVE_LOW (40_line_controller.md R101) -/

@[simp] theorem driveLow_cfg : (driveLow s).cfg = s.cfg := rfl
@[simp] theorem driveLow_ctl : (driveLow s).ctl = s.ctl := rfl
@[simp] theorem driveLow_mode : (driveLow s).mode = s.mode := rfl
@[simp] theorem driveLow_lineInit : (driveLow s).lineInit = s.lineInit := rfl
@[simp] theorem driveLow_bufValid : (driveLow s).bufValid = s.bufValid := rfl
@[simp] theorem driveLow_rxcount : (driveLow s).rxcount = s.rxcount := rfl
@[simp] theorem driveLow_diag : (driveLow s).diag = s.diag := rfl
@[simp] theorem driveLow_faultCause : (driveLow s).faultCause = s.faultCause := rfl
@[simp] theorem driveLow_faultInfo : (driveLow s).faultInfo = s.faultInfo := rfl
@[simp] theorem driveLow_dir : (driveLow s).dir = true := rfl
@[simp] theorem driveLow_out : (driveLow s).out = s.out := rfl
@[simp] theorem driveLow_dbgDir : (driveLow s).dbgDir = s.dbgDir := rfl
@[simp] theorem driveLow_dbgOut : (driveLow s).dbgOut = s.dbgOut := rfl
@[simp] theorem driveLow_txlen : (driveLow s).txlen = s.txlen := rfl
@[simp] theorem driveLow_loadcnt : (driveLow s).loadcnt = s.loadcnt := rfl
@[simp] theorem driveLow_txidx : (driveLow s).txidx = s.txidx := rfl
@[simp] theorem driveLow_bitidx : (driveLow s).bitidx = s.bitidx := rfl
@[simp] theorem driveLow_phase : (driveLow s).phase = s.phase := rfl
@[simp] theorem driveLow_txbuf : (driveLow s).txbuf = s.txbuf := rfl
@[simp] theorem driveLow_nbits : (driveLow s).nbits = s.nbits := rfl
@[simp] theorem driveLow_shift : (driveLow s).shift = s.shift := rfl
@[simp] theorem driveLow_prev : (driveLow s).prev = s.prev := rfl
@[simp] theorem driveLow_wbuf : (driveLow s).wbuf = s.wbuf := rfl
@[simp] theorem driveLow_timer : (driveLow s).timer = s.timer := rfl
@[simp] theorem driveLow_savedIe : (driveLow s).savedIe = s.savedIe := rfl
@[simp] theorem driveLow_rspq : (driveLow s).rspq = s.rspq := rfl
@[simp] theorem driveLow_ie : (driveLow s).ie = s.ie := rfl
@[simp] theorem driveLow_rst : (driveLow s).rst = s.rst := rfl
@[simp] theorem driveLow_host : (driveLow s).host = s.host := rfl
@[simp] theorem driveLow_bus : (driveLow s).bus = s.bus := rfl
@[simp] theorem driveLow_tick : (driveLow s).tick = s.tick := rfl

/-! ### RELEASE (40_line_controller.md R101) -/

@[simp] theorem release_cfg : (release s).cfg = s.cfg := rfl
@[simp] theorem release_ctl : (release s).ctl = s.ctl := rfl
@[simp] theorem release_mode : (release s).mode = s.mode := rfl
@[simp] theorem release_lineInit : (release s).lineInit = s.lineInit := rfl
@[simp] theorem release_bufValid : (release s).bufValid = s.bufValid := rfl
@[simp] theorem release_rxcount : (release s).rxcount = s.rxcount := rfl
@[simp] theorem release_diag : (release s).diag = s.diag := rfl
@[simp] theorem release_faultCause : (release s).faultCause = s.faultCause := rfl
@[simp] theorem release_faultInfo : (release s).faultInfo = s.faultInfo := rfl
@[simp] theorem release_dir : (release s).dir = false := rfl
@[simp] theorem release_out : (release s).out = s.out := rfl
@[simp] theorem release_dbgDir : (release s).dbgDir = s.dbgDir := rfl
@[simp] theorem release_dbgOut : (release s).dbgOut = s.dbgOut := rfl
@[simp] theorem release_txlen : (release s).txlen = s.txlen := rfl
@[simp] theorem release_loadcnt : (release s).loadcnt = s.loadcnt := rfl
@[simp] theorem release_txidx : (release s).txidx = s.txidx := rfl
@[simp] theorem release_bitidx : (release s).bitidx = s.bitidx := rfl
@[simp] theorem release_phase : (release s).phase = s.phase := rfl
@[simp] theorem release_txbuf : (release s).txbuf = s.txbuf := rfl
@[simp] theorem release_nbits : (release s).nbits = s.nbits := rfl
@[simp] theorem release_shift : (release s).shift = s.shift := rfl
@[simp] theorem release_prev : (release s).prev = s.prev := rfl
@[simp] theorem release_wbuf : (release s).wbuf = s.wbuf := rfl
@[simp] theorem release_timer : (release s).timer = s.timer := rfl
@[simp] theorem release_savedIe : (release s).savedIe = s.savedIe := rfl
@[simp] theorem release_rspq : (release s).rspq = s.rspq := rfl
@[simp] theorem release_ie : (release s).ie = s.ie := rfl
@[simp] theorem release_rst : (release s).rst = s.rst := rfl
@[simp] theorem release_host : (release s).host = s.host := rfl
@[simp] theorem release_bus : (release s).bus = s.bus := rfl
@[simp] theorem release_tick : (release s).tick = s.tick := rfl

/-! ### EDGE's write (40_line_controller.md R110) -/

@[simp] theorem recordLine_cfg : (recordLine s).cfg = s.cfg := rfl
@[simp] theorem recordLine_ctl : (recordLine s).ctl = s.ctl := rfl
@[simp] theorem recordLine_mode : (recordLine s).mode = s.mode := rfl
@[simp] theorem recordLine_lineInit : (recordLine s).lineInit = s.lineInit := rfl
@[simp] theorem recordLine_bufValid : (recordLine s).bufValid = s.bufValid := rfl
@[simp] theorem recordLine_rxcount : (recordLine s).rxcount = s.rxcount := rfl
@[simp] theorem recordLine_diag : (recordLine s).diag = s.diag := rfl
@[simp] theorem recordLine_faultCause : (recordLine s).faultCause = s.faultCause := rfl
@[simp] theorem recordLine_faultInfo : (recordLine s).faultInfo = s.faultInfo := rfl
@[simp] theorem recordLine_dir : (recordLine s).dir = s.dir := rfl
@[simp] theorem recordLine_out : (recordLine s).out = s.out := rfl
@[simp] theorem recordLine_dbgDir : (recordLine s).dbgDir = s.dbgDir := rfl
@[simp] theorem recordLine_dbgOut : (recordLine s).dbgOut = s.dbgOut := rfl
@[simp] theorem recordLine_txlen : (recordLine s).txlen = s.txlen := rfl
@[simp] theorem recordLine_loadcnt : (recordLine s).loadcnt = s.loadcnt := rfl
@[simp] theorem recordLine_txidx : (recordLine s).txidx = s.txidx := rfl
@[simp] theorem recordLine_bitidx : (recordLine s).bitidx = s.bitidx := rfl
@[simp] theorem recordLine_phase : (recordLine s).phase = s.phase := rfl
@[simp] theorem recordLine_txbuf : (recordLine s).txbuf = s.txbuf := rfl
@[simp] theorem recordLine_nbits : (recordLine s).nbits = s.nbits := rfl
@[simp] theorem recordLine_shift : (recordLine s).shift = s.shift := rfl
@[simp] theorem recordLine_prev : (recordLine s).prev = s.line := rfl
@[simp] theorem recordLine_wbuf : (recordLine s).wbuf = s.wbuf := rfl
@[simp] theorem recordLine_timer : (recordLine s).timer = s.timer := rfl
@[simp] theorem recordLine_savedIe : (recordLine s).savedIe = s.savedIe := rfl
@[simp] theorem recordLine_rspq : (recordLine s).rspq = s.rspq := rfl
@[simp] theorem recordLine_ie : (recordLine s).ie = s.ie := rfl
@[simp] theorem recordLine_rst : (recordLine s).rst = s.rst := rfl
@[simp] theorem recordLine_host : (recordLine s).host = s.host := rfl
@[simp] theorem recordLine_bus : (recordLine s).bus = s.bus := rfl
@[simp] theorem recordLine_tick : (recordLine s).tick = s.tick := rfl

/-! ### TXN_START (41_transaction.md R140) -/

@[simp] theorem txnStart_cfg : (txnStart s).cfg = s.cfg := rfl
@[simp] theorem txnStart_ctl : (txnStart s).ctl = .tx := rfl
@[simp] theorem txnStart_mode : (txnStart s).mode = s.mode := rfl
@[simp] theorem txnStart_lineInit : (txnStart s).lineInit = s.lineInit := rfl
@[simp] theorem txnStart_bufValid : (txnStart s).bufValid = false := rfl
@[simp] theorem txnStart_rxcount : (txnStart s).rxcount = 0#8 := rfl
@[simp] theorem txnStart_diag : (txnStart s).diag = s.diag := rfl
@[simp] theorem txnStart_faultCause : (txnStart s).faultCause = s.faultCause := rfl
@[simp] theorem txnStart_faultInfo : (txnStart s).faultInfo = s.faultInfo := rfl
@[simp] theorem txnStart_dir : (txnStart s).dir = true := rfl
@[simp] theorem txnStart_out : (txnStart s).out = s.out := rfl
@[simp] theorem txnStart_dbgDir : (txnStart s).dbgDir = s.dbgDir := rfl
@[simp] theorem txnStart_dbgOut : (txnStart s).dbgOut = s.dbgOut := rfl
@[simp] theorem txnStart_txlen : (txnStart s).txlen = s.txlen := rfl
@[simp] theorem txnStart_loadcnt : (txnStart s).loadcnt = s.loadcnt := rfl
@[simp] theorem txnStart_txidx : (txnStart s).txidx = 0#8 := rfl
@[simp] theorem txnStart_bitidx : (txnStart s).bitidx = 7#3 := rfl
@[simp] theorem txnStart_phase : (txnStart s).phase = .low := rfl
@[simp] theorem txnStart_txbuf : (txnStart s).txbuf = s.txbuf := rfl
@[simp] theorem txnStart_nbits : (txnStart s).nbits = 0#16 := rfl
@[simp] theorem txnStart_shift : (txnStart s).shift = 0#8 := rfl
@[simp] theorem txnStart_prev : (txnStart s).prev = s.prev := rfl
@[simp] theorem txnStart_wbuf : (txnStart s).wbuf = s.wbuf := rfl
@[simp] theorem txnStart_timer : (txnStart s).timer = 0#16 := rfl
@[simp] theorem txnStart_savedIe : (txnStart s).savedIe = s.ie := rfl
@[simp] theorem txnStart_rspq : (txnStart s).rspq = s.rspq := rfl
@[simp] theorem txnStart_ie : (txnStart s).ie = false := rfl
@[simp] theorem txnStart_rst : (txnStart s).rst = s.rst := rfl
@[simp] theorem txnStart_host : (txnStart s).host = s.host := rfl
@[simp] theorem txnStart_bus : (txnStart s).bus = s.bus := rfl
@[simp] theorem txnStart_tick : (txnStart s).tick = s.tick := rfl

/-! ### TXN_END (41_transaction.md R144) -/

@[simp] theorem txnEnd_cfg (rc : Byte) : (txnEnd rc s).cfg = s.cfg := rfl
@[simp] theorem txnEnd_ctl (rc : Byte) : (txnEnd rc s).ctl = .postDelay := rfl
@[simp] theorem txnEnd_mode (rc : Byte) : (txnEnd rc s).mode = s.mode := rfl
@[simp] theorem txnEnd_lineInit (rc : Byte) : (txnEnd rc s).lineInit = s.lineInit := rfl
@[simp] theorem txnEnd_bufValid (rc : Byte) : (txnEnd rc s).bufValid = decide (0 < (normalizeRc rc).toNat) := rfl
@[simp] theorem txnEnd_rxcount (rc : Byte) : (txnEnd rc s).rxcount = normalizeRc rc := rfl
@[simp] theorem txnEnd_diag (rc : Byte) : (txnEnd rc s).diag = diagOf rc := rfl
@[simp] theorem txnEnd_faultCause (rc : Byte) : (txnEnd rc s).faultCause = s.faultCause := rfl
@[simp] theorem txnEnd_faultInfo (rc : Byte) : (txnEnd rc s).faultInfo = s.faultInfo := rfl
@[simp] theorem txnEnd_dir (rc : Byte) : (txnEnd rc s).dir = s.dir := rfl
@[simp] theorem txnEnd_out (rc : Byte) : (txnEnd rc s).out = s.out := rfl
@[simp] theorem txnEnd_dbgDir (rc : Byte) : (txnEnd rc s).dbgDir = s.dbgDir := rfl
@[simp] theorem txnEnd_dbgOut (rc : Byte) : (txnEnd rc s).dbgOut = s.dbgOut := rfl
@[simp] theorem txnEnd_txlen (rc : Byte) : (txnEnd rc s).txlen = s.txlen := rfl
@[simp] theorem txnEnd_loadcnt (rc : Byte) : (txnEnd rc s).loadcnt = s.loadcnt := rfl
@[simp] theorem txnEnd_txidx (rc : Byte) : (txnEnd rc s).txidx = s.txidx := rfl
@[simp] theorem txnEnd_bitidx (rc : Byte) : (txnEnd rc s).bitidx = s.bitidx := rfl
@[simp] theorem txnEnd_phase (rc : Byte) : (txnEnd rc s).phase = s.phase := rfl
@[simp] theorem txnEnd_txbuf (rc : Byte) : (txnEnd rc s).txbuf = s.txbuf := rfl
@[simp] theorem txnEnd_nbits (rc : Byte) : (txnEnd rc s).nbits = s.nbits := rfl
@[simp] theorem txnEnd_shift (rc : Byte) : (txnEnd rc s).shift = s.shift := rfl
@[simp] theorem txnEnd_prev (rc : Byte) : (txnEnd rc s).prev = s.prev := rfl
@[simp] theorem txnEnd_wbuf (rc : Byte) : (txnEnd rc s).wbuf = s.wbuf := rfl
@[simp] theorem txnEnd_timer (rc : Byte) : (txnEnd rc s).timer = 0#16 := rfl
@[simp] theorem txnEnd_savedIe (rc : Byte) : (txnEnd rc s).savedIe = s.savedIe := rfl
@[simp] theorem txnEnd_rspq (rc : Byte) : (txnEnd rc s).rspq = s.rspq := rfl
@[simp] theorem txnEnd_ie (rc : Byte) : (txnEnd rc s).ie = s.savedIe := rfl
@[simp] theorem txnEnd_rst (rc : Byte) : (txnEnd rc s).rst = s.rst := rfl
@[simp] theorem txnEnd_host (rc : Byte) : (txnEnd rc s).host = s.host := rfl
@[simp] theorem txnEnd_bus (rc : Byte) : (txnEnd rc s).bus = s.bus := rfl
@[simp] theorem txnEnd_tick (rc : Byte) : (txnEnd rc s).tick = s.tick := rfl

/-! ### the reset values (10_state.md R50) -/

@[simp] theorem resetBlock_cfg (d : ResetDraws) : (resetBlock d s).cfg = s.cfg := rfl
@[simp] theorem resetBlock_ctl (d : ResetDraws) : (resetBlock d s).ctl = .idle := rfl
@[simp] theorem resetBlock_mode (d : ResetDraws) : (resetBlock d s).mode = .execTxn := rfl
@[simp] theorem resetBlock_lineInit (d : ResetDraws) : (resetBlock d s).lineInit = false := rfl
@[simp] theorem resetBlock_bufValid (d : ResetDraws) : (resetBlock d s).bufValid = false := rfl
@[simp] theorem resetBlock_rxcount (d : ResetDraws) : (resetBlock d s).rxcount = 0#8 := rfl
@[simp] theorem resetBlock_diag (d : ResetDraws) : (resetBlock d s).diag = .ok := rfl
@[simp] theorem resetBlock_faultCause (d : ResetDraws) : (resetBlock d s).faultCause = .none := rfl
@[simp] theorem resetBlock_faultInfo (d : ResetDraws) : (resetBlock d s).faultInfo = 0#32 := rfl
@[simp] theorem resetBlock_dir (d : ResetDraws) : (resetBlock d s).dir = d.dir := rfl
@[simp] theorem resetBlock_out (d : ResetDraws) : (resetBlock d s).out = d.out := rfl
@[simp] theorem resetBlock_dbgDir (d : ResetDraws) : (resetBlock d s).dbgDir = d.dbgDir := rfl
@[simp] theorem resetBlock_dbgOut (d : ResetDraws) : (resetBlock d s).dbgOut = d.dbgOut := rfl
@[simp] theorem resetBlock_txlen (d : ResetDraws) : (resetBlock d s).txlen = 0#8 := rfl
@[simp] theorem resetBlock_loadcnt (d : ResetDraws) : (resetBlock d s).loadcnt = 0#8 := rfl
@[simp] theorem resetBlock_txidx (d : ResetDraws) : (resetBlock d s).txidx = 0#8 := rfl
@[simp] theorem resetBlock_bitidx (d : ResetDraws) : (resetBlock d s).bitidx = 7#3 := rfl
@[simp] theorem resetBlock_phase (d : ResetDraws) : (resetBlock d s).phase = .low := rfl
@[simp] theorem resetBlock_txbuf (d : ResetDraws) : (resetBlock d s).txbuf = d.txbuf := rfl
@[simp] theorem resetBlock_nbits (d : ResetDraws) : (resetBlock d s).nbits = 0#16 := rfl
@[simp] theorem resetBlock_shift (d : ResetDraws) : (resetBlock d s).shift = 0#8 := rfl
@[simp] theorem resetBlock_prev (d : ResetDraws) : (resetBlock d s).prev = true := rfl
@[simp] theorem resetBlock_wbuf (d : ResetDraws) : (resetBlock d s).wbuf = d.wbuf := rfl
@[simp] theorem resetBlock_timer (d : ResetDraws) : (resetBlock d s).timer = 0#16 := rfl
@[simp] theorem resetBlock_savedIe (d : ResetDraws) : (resetBlock d s).savedIe = d.savedIe := rfl
@[simp] theorem resetBlock_rspq (d : ResetDraws) : (resetBlock d s).rspq = [] := rfl
@[simp] theorem resetBlock_ie (d : ResetDraws) : (resetBlock d s).ie = s.ie := rfl
@[simp] theorem resetBlock_rst (d : ResetDraws) : (resetBlock d s).rst = s.rst := rfl
@[simp] theorem resetBlock_host (d : ResetDraws) : (resetBlock d s).host = s.host := rfl
@[simp] theorem resetBlock_bus (d : ResetDraws) : (resetBlock d s).bus = s.bus := rfl
@[simp] theorem resetBlock_tick (d : ResetDraws) : (resetBlock d s).tick = s.tick := rfl

/-! ### the end of a tick: the block's registers are `t`'s but for RSPQ and IE -/

@[simp] theorem endTick_cfg (t : State) : (endTick s t).cfg = t.cfg := rfl
@[simp] theorem endTick_ctl (t : State) : (endTick s t).ctl = t.ctl := rfl
@[simp] theorem endTick_mode (t : State) : (endTick s t).mode = t.mode := rfl
@[simp] theorem endTick_lineInit (t : State) : (endTick s t).lineInit = t.lineInit := rfl
@[simp] theorem endTick_bufValid (t : State) : (endTick s t).bufValid = t.bufValid := rfl
@[simp] theorem endTick_rxcount (t : State) : (endTick s t).rxcount = t.rxcount := rfl
@[simp] theorem endTick_diag (t : State) : (endTick s t).diag = t.diag := rfl
@[simp] theorem endTick_faultCause (t : State) : (endTick s t).faultCause = t.faultCause := rfl
@[simp] theorem endTick_faultInfo (t : State) : (endTick s t).faultInfo = t.faultInfo := rfl
@[simp] theorem endTick_dir (t : State) : (endTick s t).dir = t.dir := rfl
@[simp] theorem endTick_out (t : State) : (endTick s t).out = t.out := rfl
@[simp] theorem endTick_dbgDir (t : State) : (endTick s t).dbgDir = t.dbgDir := rfl
@[simp] theorem endTick_dbgOut (t : State) : (endTick s t).dbgOut = t.dbgOut := rfl
@[simp] theorem endTick_txlen (t : State) : (endTick s t).txlen = t.txlen := rfl
@[simp] theorem endTick_loadcnt (t : State) : (endTick s t).loadcnt = t.loadcnt := rfl
@[simp] theorem endTick_txidx (t : State) : (endTick s t).txidx = t.txidx := rfl
@[simp] theorem endTick_bitidx (t : State) : (endTick s t).bitidx = t.bitidx := rfl
@[simp] theorem endTick_phase (t : State) : (endTick s t).phase = t.phase := rfl
@[simp] theorem endTick_txbuf (t : State) : (endTick s t).txbuf = t.txbuf := rfl
@[simp] theorem endTick_nbits (t : State) : (endTick s t).nbits = t.nbits := rfl
@[simp] theorem endTick_shift (t : State) : (endTick s t).shift = t.shift := rfl
@[simp] theorem endTick_prev (t : State) : (endTick s t).prev = t.prev := rfl
@[simp] theorem endTick_wbuf (t : State) : (endTick s t).wbuf = t.wbuf := rfl
@[simp] theorem endTick_timer (t : State) : (endTick s t).timer = t.timer := rfl
@[simp] theorem endTick_savedIe (t : State) : (endTick s t).savedIe = t.savedIe := rfl
@[simp] theorem endTick_rspq (t : State) : (endTick s t).rspq = if s.pops then t.rspq.tail else t.rspq := rfl
@[simp] theorem endTick_ie (t : State) : (endTick s t).ie = ieAfter s t := rfl
@[simp] theorem endTick_rst (t : State) : (endTick s t).rst = s.rst.tail := rfl
@[simp] theorem endTick_host (t : State) : (endTick s t).host = hostAfter s := rfl
@[simp] theorem endTick_bus (t : State) : (endTick s t).bus = busAfter s.bus := rfl
@[simp] theorem endTick_tick (t : State) : (endTick s t).tick = s.tick + 1 := rfl

/-! ### RESET_TICK (70_reset_and_hazards.md R240) -/

@[simp] theorem resetTick_cfg : (resetTick s).cfg = (resetBlock (freeDraws s.tick s.cfg.txCap) s).cfg := rfl
@[simp] theorem resetTick_ctl : (resetTick s).ctl = (resetBlock (freeDraws s.tick s.cfg.txCap) s).ctl := rfl
@[simp] theorem resetTick_mode : (resetTick s).mode = (resetBlock (freeDraws s.tick s.cfg.txCap) s).mode := rfl
@[simp] theorem resetTick_lineInit :
    (resetTick s).lineInit = (resetBlock (freeDraws s.tick s.cfg.txCap) s).lineInit := rfl
@[simp] theorem resetTick_bufValid :
    (resetTick s).bufValid = (resetBlock (freeDraws s.tick s.cfg.txCap) s).bufValid := rfl
@[simp] theorem resetTick_rxcount : (resetTick s).rxcount = (resetBlock (freeDraws s.tick s.cfg.txCap) s).rxcount := rfl
@[simp] theorem resetTick_diag : (resetTick s).diag = (resetBlock (freeDraws s.tick s.cfg.txCap) s).diag := rfl
@[simp] theorem resetTick_faultCause :
    (resetTick s).faultCause = (resetBlock (freeDraws s.tick s.cfg.txCap) s).faultCause := rfl
@[simp] theorem resetTick_faultInfo :
    (resetTick s).faultInfo = (resetBlock (freeDraws s.tick s.cfg.txCap) s).faultInfo := rfl
@[simp] theorem resetTick_dir : (resetTick s).dir = (resetBlock (freeDraws s.tick s.cfg.txCap) s).dir := rfl
@[simp] theorem resetTick_out : (resetTick s).out = (resetBlock (freeDraws s.tick s.cfg.txCap) s).out := rfl
@[simp] theorem resetTick_dbgDir : (resetTick s).dbgDir = (resetBlock (freeDraws s.tick s.cfg.txCap) s).dbgDir := rfl
@[simp] theorem resetTick_dbgOut : (resetTick s).dbgOut = (resetBlock (freeDraws s.tick s.cfg.txCap) s).dbgOut := rfl
@[simp] theorem resetTick_txlen : (resetTick s).txlen = (resetBlock (freeDraws s.tick s.cfg.txCap) s).txlen := rfl
@[simp] theorem resetTick_loadcnt : (resetTick s).loadcnt = (resetBlock (freeDraws s.tick s.cfg.txCap) s).loadcnt := rfl
@[simp] theorem resetTick_txidx : (resetTick s).txidx = (resetBlock (freeDraws s.tick s.cfg.txCap) s).txidx := rfl
@[simp] theorem resetTick_bitidx : (resetTick s).bitidx = (resetBlock (freeDraws s.tick s.cfg.txCap) s).bitidx := rfl
@[simp] theorem resetTick_phase : (resetTick s).phase = (resetBlock (freeDraws s.tick s.cfg.txCap) s).phase := rfl
@[simp] theorem resetTick_txbuf : (resetTick s).txbuf = (resetBlock (freeDraws s.tick s.cfg.txCap) s).txbuf := rfl
@[simp] theorem resetTick_nbits : (resetTick s).nbits = (resetBlock (freeDraws s.tick s.cfg.txCap) s).nbits := rfl
@[simp] theorem resetTick_shift : (resetTick s).shift = (resetBlock (freeDraws s.tick s.cfg.txCap) s).shift := rfl
@[simp] theorem resetTick_prev : (resetTick s).prev = (resetBlock (freeDraws s.tick s.cfg.txCap) s).prev := rfl
@[simp] theorem resetTick_wbuf : (resetTick s).wbuf = (resetBlock (freeDraws s.tick s.cfg.txCap) s).wbuf := rfl
@[simp] theorem resetTick_timer : (resetTick s).timer = (resetBlock (freeDraws s.tick s.cfg.txCap) s).timer := rfl
@[simp] theorem resetTick_savedIe : (resetTick s).savedIe = (resetBlock (freeDraws s.tick s.cfg.txCap) s).savedIe := rfl
@[simp] theorem resetTick_rspq : (resetTick s).rspq = (resetBlock (freeDraws s.tick s.cfg.txCap) s).rspq := rfl
@[simp] theorem resetTick_ie : (resetTick s).ie = (resetBlock (freeDraws s.tick s.cfg.txCap) s).ie := rfl
@[simp] theorem resetTick_rst : (resetTick s).rst = s.rst.tail := rfl
@[simp] theorem resetTick_host : (resetTick s).host = (resetBlock (freeDraws s.tick s.cfg.txCap) s).host := rfl
@[simp] theorem resetTick_bus : (resetTick s).bus = busAfter s.bus := rfl
@[simp] theorem resetTick_tick : (resetTick s).tick = s.tick + 1 := rfl

/-! ### Level T's unspecified registers (41_transaction.md R151) -/

@[simp] theorem scramble_cfg (d : ScratchDraws) : (scramble d s).cfg = s.cfg := rfl
@[simp] theorem scramble_ctl (d : ScratchDraws) : (scramble d s).ctl = s.ctl := rfl
@[simp] theorem scramble_mode (d : ScratchDraws) : (scramble d s).mode = s.mode := rfl
@[simp] theorem scramble_lineInit (d : ScratchDraws) : (scramble d s).lineInit = s.lineInit := rfl
@[simp] theorem scramble_bufValid (d : ScratchDraws) : (scramble d s).bufValid = s.bufValid := rfl
@[simp] theorem scramble_rxcount (d : ScratchDraws) : (scramble d s).rxcount = s.rxcount := rfl
@[simp] theorem scramble_diag (d : ScratchDraws) : (scramble d s).diag = s.diag := rfl
@[simp] theorem scramble_faultCause (d : ScratchDraws) : (scramble d s).faultCause = s.faultCause := rfl
@[simp] theorem scramble_faultInfo (d : ScratchDraws) : (scramble d s).faultInfo = s.faultInfo := rfl
@[simp] theorem scramble_dir (d : ScratchDraws) : (scramble d s).dir = s.dir := rfl
@[simp] theorem scramble_out (d : ScratchDraws) : (scramble d s).out = s.out := rfl
@[simp] theorem scramble_dbgDir (d : ScratchDraws) : (scramble d s).dbgDir = s.dbgDir := rfl
@[simp] theorem scramble_dbgOut (d : ScratchDraws) : (scramble d s).dbgOut = s.dbgOut := rfl
@[simp] theorem scramble_txlen (d : ScratchDraws) : (scramble d s).txlen = s.txlen := rfl
@[simp] theorem scramble_loadcnt (d : ScratchDraws) : (scramble d s).loadcnt = d.loadcnt := rfl
@[simp] theorem scramble_txidx (d : ScratchDraws) : (scramble d s).txidx = d.txidx := rfl
@[simp] theorem scramble_bitidx (d : ScratchDraws) : (scramble d s).bitidx = d.bitidx := rfl
@[simp] theorem scramble_phase (d : ScratchDraws) : (scramble d s).phase = d.phase := rfl
@[simp] theorem scramble_txbuf (d : ScratchDraws) : (scramble d s).txbuf = s.txbuf := rfl
@[simp] theorem scramble_nbits (d : ScratchDraws) : (scramble d s).nbits = d.nbits := rfl
@[simp] theorem scramble_shift (d : ScratchDraws) : (scramble d s).shift = d.shift := rfl
@[simp] theorem scramble_prev (d : ScratchDraws) : (scramble d s).prev = d.prev := rfl
@[simp] theorem scramble_wbuf (d : ScratchDraws) : (scramble d s).wbuf = s.wbuf := rfl
@[simp] theorem scramble_timer (d : ScratchDraws) : (scramble d s).timer = d.timer := rfl
@[simp] theorem scramble_savedIe (d : ScratchDraws) : (scramble d s).savedIe = s.savedIe := rfl
@[simp] theorem scramble_rspq (d : ScratchDraws) : (scramble d s).rspq = s.rspq := rfl
@[simp] theorem scramble_ie (d : ScratchDraws) : (scramble d s).ie = s.ie := rfl
@[simp] theorem scramble_rst (d : ScratchDraws) : (scramble d s).rst = s.rst := rfl
@[simp] theorem scramble_host (d : ScratchDraws) : (scramble d s).host = s.host := rfl
@[simp] theorem scramble_bus (d : ScratchDraws) : (scramble d s).bus = s.bus := rfl
@[simp] theorem scramble_tick (d : ScratchDraws) : (scramble d s).tick = s.tick := rfl

end

end Sys2Proof.Machine
end

