-- ==== Sys2Proof/Laws/Ops.lean ====
section
/-! SUPPORT. What each shared operation can do, once: results, ports, checks, buffers, the packer and the tick rules. -/

namespace Sys2Proof.Machine

/-! ### Results -/

@[simp] theorem onNext_next (s : State) (f : State → State) : onNext (.next s) f = .next (f s) := rfl
@[simp] theorem onNext_fault (e : Fault) (f : State → State) : onNext (.fault e) f = .fault e := rfl
@[simp] theorem onNext_refused (e : Refusal) (f : State → State) : onNext (.refused e) f = .refused e := rfl
@[simp] theorem andThen_next (s : State) (f : State → Result) : andThen (.next s) f = f s := rfl
@[simp] theorem andThen_fault (e : Fault) (f : State → Result) : andThen (.fault e) f = .fault e := rfl
@[simp] theorem andThen_refused (e : Refusal) (f : State → Result) : andThen (.refused e) f = .refused e := rfl

/-- `onNext` answers a next state exactly from one. -/
theorem onNext_eq_next {r : Result} {f : State → State} {t : State} :
    onNext r f = .next t ↔ ∃ u, r = .next u ∧ t = f u := by
  cases r <;> simp [eq_comm]

/-- `andThen` answers a next state exactly through one. -/
theorem andThen_eq_next {r : Result} {f : State → Result} {t : State} :
    andThen r f = .next t ↔ ∃ u, r = .next u ∧ f u = .next t := by
  cases r <;> simp

/-! ### Ports and checks -/

/-- Readiness for a CMD word (10_state.md R43). -/
theorem ready_iff (s : State) : s.ready = true ↔ s.ctl = .idle ∧ s.rspq = [] := by
  simp [State.ready]

/-- What a command at the port does: it is turned away, it faults, or its body runs. -/
theorem performCmd_cases (i : Instr) (s : State) (body : State → Result) :
    (s.ready = false ∧ performCmd i s body = .next s) ∨
    (s.ready = true ∧ ∃ c, checkCmd i s = some c ∧ performCmd i s body = .next (raiseFault c (encode i) s)) ∨
    (s.ready = true ∧ checkCmd i s = none ∧ performCmd i s body = body s) := by
  unfold performCmd
  by_cases hr : s.ready = false
  · exact .inl ⟨hr, by simp [hr]⟩
  · have hr' : s.ready = true := by simpa using hr
    cases hc : checkCmd i s with
    | some c => exact .inr (.inl ⟨hr', c, rfl, by simp [hr']⟩)
    | none => exact .inr (.inr ⟨hr', rfl, by simp [hr']⟩)

/-- A TXBUF write inside TX_CAP. -/
theorem putTxbuf_of_lt {i : Nat} {v : Byte} {s : State} (h : i < s.cfg.txCap) :
    putTxbuf i v s = .next { s with txbuf := s.txbuf.write i v } := by
  simp [putTxbuf, h]

/-- A TXBUF write that answers a next state is inside TX_CAP. -/
theorem putTxbuf_eq_next {i : Nat} {v : Byte} {s t : State} (h : putTxbuf i v s = .next t) :
    i < s.cfg.txCap ∧ t = { s with txbuf := s.txbuf.write i v } := by
  unfold putTxbuf at h
  split at h
  · next hi => cases h; exact ⟨hi, rfl⟩
  · cases h

/-- When a read is performed (42_buffer.md R172-R174). -/
theorem checkRead_eq_none (off n : Nat) (s : State) :
    checkRead off n s = none ↔
      off % 8 = 0 ∧ (n = 0 ∨ (off / 8 + n ≤ Config.bufCap ∧ s.bufValid = true ∧ off / 8 + n ≤ s.rxcount.toNat)) := by
  unfold checkRead aligned byteIndex
  by_cases h0 : off % 8 = 0
  · by_cases h1 : n = 0
    · simp [h0, h1]
    · by_cases h2 : off / 8 + n > Config.bufCap
      · have : ¬ off / 8 + n ≤ Config.bufCap := by omega
        simp [h0, h1, h2, this]
      · have h2' : off / 8 + n ≤ Config.bufCap := by omega
        by_cases h3 : s.bufValid = false ∨ off / 8 + n > s.rxcount.toNat
        · have : ¬ (s.bufValid = true ∧ off / 8 + n ≤ s.rxcount.toNat) := by
            rintro ⟨h4, h5⟩
            rcases h3 with h3 | h3
            · simp [h4] at h3
            · omega
          simp only [h0, h1, h2, h3, beq_self_eq_true, Bool.true_eq_false, if_false, if_true, reduceCtorEq, true_and,
            false_or, false_iff]
          exact fun h => this h.2
        · have h4 : s.bufValid = true := by
            by_contra hb
            exact h3 (.inl (by simpa using hb))
          have h5 : off / 8 + n ≤ s.rxcount.toNat := by
            by_contra hb
            exact h3 (.inr (by omega))
          have h6 : ¬ s.rxcount.toNat < off / 8 + n := by omega
          have h7 : ¬ Config.bufCap < off / 8 + n := by omega
          simp [h0, h1, h2', h4, h5, h6, h7]
  · simp [h0]

/-- When an EXEC_TXN header is performed (10_state.md R26, 41_transaction.md R132). -/
theorem checkCmd_execTxn_eq_none (len : Nat) (s : State) :
    checkCmd (.execTxn len) s = none ↔ s.lineInit = true ∧ 1 ≤ len ∧ len ≤ s.cfg.txCap := by
  unfold checkCmd checkInit checkLen
  cases hl : s.lineInit
  · simp
  · by_cases h : len = 0 ∨ len > s.cfg.txCap
    · simp only [h, if_true, Bool.true_eq_false, if_false, true_and]
      constructor
      · intro h'; cases h'
      · omega
    · simp only [h, if_false, Bool.true_eq_false, true_and]
      constructor
      · intro _; omega
      · intro _; rfl

/-- No check reports the cause `none` (60_exceptions.md R211). -/
theorem checkCmd_ne_none {i : Instr} {s : State} {c : FaultCause} (h : checkCmd i s = some c) : c ≠ .none := by
  rintro rfl
  have hr : ∀ off n, checkRead off n s ≠ some .none := by
    intro off n hc
    unfold checkRead at hc
    repeat' split at hc
    all_goals simp at hc
  cases i with
  | initLine => cases h
  | execTxn len => cases hl : s.lineInit <;> simp [checkCmd, checkInit, checkLen, hl] at h
  | readByte off => exact hr _ _ h
  | readBytes off n => exact hr _ _ h
  | detect => cases hl : s.lineInit <;> simp [checkCmd, checkInit, hl] at h

/-! ### Reset -/

/-- The free draws of a reset tick are canonical arrays (10_state.md R50). -/
theorem freeDraws_wf (tick txCap : Nat) :
    (freeDraws tick txCap).wbuf.wf Config.bufCap = true ∧ (freeDraws tick txCap).txbuf.wf txCap = true := by
  simp only [freeDraws]
  generalize Config.bufCap = n
  exact ⟨Memory.fill_wf _ le_rfl, Memory.fill_wf _ le_rfl⟩

/-- What a reset tick leaves: a reset state for some draws (70_reset_and_hazards.md R240). -/
theorem resetTick_draws (s : State) : ∃ d : ResetDraws,
    d.wbuf.wf Config.bufCap = true ∧ d.txbuf.wf s.cfg.txCap = true ∧
    resetTick s = { resetBlock d s with rst := s.rst.tail, bus := busAfter s.bus, tick := s.tick + 1 } :=
  ⟨freeDraws s.tick s.cfg.txCap, (freeDraws_wf _ _).1, (freeDraws_wf _ _).2, rfl⟩

/-! ### The tick rules: what each may write -/

/-- NEXT_BIT writes DIR, BITIDX, TXIDX, PHASE and STATE only. -/
theorem nextBit_frame (s : State) : ∃ c p b x,
    nextBit s = { s with ctl := c, phase := p, bitidx := b, txidx := x, dir := true } := by
  unfold nextBit driveLow
  split
  · exact ⟨s.ctl, .low, _, s.txidx, rfl⟩
  · split
    · exact ⟨s.ctl, .low, _, _, rfl⟩
    · exact ⟨.txStop, s.phase, s.bitidx, s.txidx, rfl⟩

/-- TX_TICK writes TIMER, DIR, BITIDX, TXIDX, PHASE and STATE only. -/
theorem txAdvance_frame (s : State) : ∃ c p b x d tm,
    txAdvance s = { s with ctl := c, phase := p, bitidx := b, txidx := x, dir := d, timer := tm } := by
  unfold txAdvance
  split
  · exact ⟨s.ctl, s.phase, s.bitidx, s.txidx, s.dir, _, rfl⟩
  · split
    · exact ⟨s.ctl, .high, s.bitidx, s.txidx, false, _, rfl⟩
    · obtain ⟨c, p, b, x, h⟩ := nextBit_frame (setTimer 0 s)
      exact ⟨c, p, b, x, true, _, h⟩

/-- TX_STOP_TICK writes TIMER, DIR, PREV and STATE only, and goes to RX_WAIT or stays. -/
theorem txStopTick_cases (s : State) :
    (s.timer.toNat + 1 < s.cfg.tstopLow ∧ txStopTick s = setTimer (s.timer.toNat + 1) s) ∨
    (¬ s.timer.toNat + 1 < s.cfg.tstopLow ∧
      txStopTick s = { setTimer 0 s with dir := false, prev := false, ctl := .rxWait }) := by
  unfold txStopTick
  split
  · next h => exact .inl ⟨h, rfl⟩
  · next h => exact .inr ⟨h, rfl⟩

/-- PACK_BIT writes SHIFT, NBITS and WBUF only. -/
theorem packBit_frame (b : Bool) (s : State) : ∃ m,
    packBit b s = { s with shift := shiftIn s.shift b, nbits := BitVec.ofNat 16 (s.nbits.toNat + 1), wbuf := m } := by
  unfold packBit putWbuf
  split
  · exact ⟨_, rfl⟩
  · exact ⟨s.wbuf, rfl⟩

/-- PACK_BIT keeps WBUF's canonical form. -/
theorem packBit_wbuf_wf {b : Bool} {s : State} (h : s.wbuf.wf Config.bufCap = true) :
    (packBit b s).wbuf.wf Config.bufCap = true := by
  unfold packBit
  split
  · next hc =>
    refine Memory.write_wf h ?_
    have h1 : (s.nbits.toNat + 1) / 8 ≠ 0 := by omega
    omega
  · exact h

/-- Where RX_WAIT_TICK leads. -/
theorem rxWaitTick_cases (s : State) :
    (s.edge = true ∧ rxWaitTick s = { setTimer 0 (recordLine s) with ctl := .rxBit }) ∨
    (s.edge = false ∧ s.timer.toNat + 1 < s.cfg.tRxTimeout ∧
      rxWaitTick s = setTimer (s.timer.toNat + 1) (recordLine s)) ∨
    (s.edge = false ∧ ¬ s.timer.toNat + 1 < s.cfg.tRxTimeout ∧ rxWaitTick s = txnEnd 0#8 (recordLine s)) := by
  unfold rxWaitTick
  cases he : s.edge
  · by_cases ht : s.timer.toNat + 1 < s.cfg.tRxTimeout
    · exact .inr (.inl ⟨rfl, ht, by simp [ht]⟩)
    · exact .inr (.inr ⟨rfl, ht, by simp [ht]⟩)
  · exact .inl ⟨rfl, by simp⟩

/-- Where RX_GAP_TICK leads. -/
theorem rxGapTick_cases (s : State) :
    (s.edge = true ∧ rxGapTick s = { setTimer 0 (recordLine s) with ctl := .rxBit }) ∨
    (s.edge = false ∧ s.timer.toNat + 1 < s.cfg.tGap ∧
      rxGapTick s = setTimer (s.timer.toNat + 1) (recordLine s)) ∨
    (s.edge = false ∧ ¬ s.timer.toNat + 1 < s.cfg.tGap ∧
      rxGapTick s = txnEnd (rxOutcome s.nbits.toNat) (recordLine s)) := by
  unfold rxGapTick
  cases he : s.edge
  · by_cases ht : s.timer.toNat + 1 < s.cfg.tGap
    · exact .inr (.inl ⟨rfl, ht, by simp [ht]⟩)
    · exact .inr (.inr ⟨rfl, ht, by simp [ht]⟩)
  · exact .inl ⟨rfl, by simp⟩

/-- Where RX_BIT_TICK leads. -/
theorem rxBitTick_cases (s : State) :
    (s.timer.toNat + 1 ≠ s.cfg.tSample ∧ rxBitTick s = setTimer (s.timer.toNat + 1) (recordLine s)) ∨
    (s.timer.toNat + 1 = s.cfg.tSample ∧ s.nbits.toNat + 1 ≠ Config.nbitsMax ∧
      rxBitTick s = { packBit s.line (setTimer (s.timer.toNat + 1) (recordLine s)) with ctl := .rxGap }) ∨
    (s.timer.toNat + 1 = s.cfg.tSample ∧ s.nbits.toNat + 1 = Config.nbitsMax ∧
      rxBitTick s = txnEnd Config.rxErr (packBit s.line (setTimer (s.timer.toNat + 1) (recordLine s)))) := by
  unfold rxBitTick
  by_cases h1 : s.timer.toNat + 1 = s.cfg.tSample
  · by_cases h2 : s.nbits.toNat + 1 = Config.nbitsMax
    · exact .inr (.inr ⟨h1, h2, by simp [h1, h2]⟩)
    · exact .inr (.inl ⟨h1, h2, by simp [h1, h2]⟩)
  · exact .inl ⟨h1, by simp [h1]⟩

/-- Where POST_DELAY_TICK leads. -/
theorem postDelayTick_cases (s : State) :
    (s.timer.toNat + 1 < s.cfg.tPost ∧ postDelayTick s = setTimer (s.timer.toNat + 1) s) ∨
    (¬ s.timer.toNat + 1 < s.cfg.tPost ∧ s.mode = .execTxn ∧
      postDelayTick s = { respond s.rxcount (setTimer 0 s) with ctl := .idle }) ∨
    (¬ s.timer.toNat + 1 < s.cfg.tPost ∧ s.mode = .detect ∧
      postDelayTick s = { setTimer 0 s with ctl := .classify }) := by
  unfold postDelayTick
  by_cases h1 : s.timer.toNat + 1 < s.cfg.tPost
  · exact .inl ⟨h1, by simp [h1]⟩
  · cases hm : s.mode
    · exact .inr (.inl ⟨h1, rfl, by simp [h1]⟩)
    · exact .inr (.inr ⟨h1, rfl, by simp [h1]⟩)

/-- What LOAD_WORD does: a fault, one more byte, or the start of the transaction. -/
theorem loadWord_cases {d : Word} {s t : State} (h : loadWord d s = .next t) :
    (dataRsv d ≠ 0#24 ∧ t = raiseFault .reservedField d s) ∨
    (dataRsv d = 0#24 ∧ s.loadcnt.toNat < s.cfg.txCap ∧
      t = loadAdvance { s with txbuf := s.txbuf.write s.loadcnt.toNat (dataByte d) }) := by
  unfold loadWord at h
  split at h
  · next hd => cases h; exact .inl ⟨hd, rfl⟩
  · next hd =>
    obtain ⟨u, hu, rfl⟩ := onNext_eq_next.mp h
    obtain ⟨hlt, rfl⟩ := putTxbuf_eq_next hu
    exact .inr ⟨by simpa using hd, hlt, rfl⟩

/-! ### The responses of a run -/

/-- A run of responses appends one word per byte, in order. -/
theorem respondAll_eq (vs : List Byte) (s : State) :
    respondAll vs s = { s with rspq := s.rspq ++ vs.map fun v => v.setWidth 32 } := by
  induction vs generalizing s with
  | nil => simp [respondAll]
  | cons v vs ih =>
    have h : respondAll (v :: vs) s = respondAll vs (respond v s) := rfl
    rw [h, ih]
    simp [respond]

end Sys2Proof.Machine
end

