-- ==== Sys2Proof/Laws/LevelT.lean ====
section
/-! SUPPORT. What the DATA words of an EXEC_TXN do at Level T, once (41_transaction.md R130). -/

namespace Sys2Proof.Machine

/-- A byte sent as a DATA word has no bit in [31:8] (30_encoding.md R84). -/
@[simp] theorem dataRsv_setWidth (b : Byte) : dataRsv (b.setWidth 32) = 0#24 := by
  apply BitVec.eq_of_getLsbD_eq
  intro i hi
  simp [dataRsv]

/-- A byte sent as a DATA word is the word's byte (30_encoding.md R84). -/
@[simp] theorem dataByte_setWidth (b : Byte) : dataByte (b.setWidth 32) = b := by
  apply BitVec.eq_of_getLsbD_eq
  intro i hi
  have : i < 32 := by omega
  simp [dataByte, hi, this]

/-- Good words before the last one only store their bytes. -/
theorem takeData_append {len : Nat} {d : ScratchDraws} (bytes : List Byte) (rest : List Word) {i : Nat} {s : State}
    (hl : i + bytes.length < len) (hc : len ≤ s.cfg.txCap) :
    takeData len d ((bytes.map fun b => b.setWidth 32) ++ rest) i s =
      takeData len d rest (i + bytes.length) { s with txbuf := s.txbuf.writeList i bytes } := by
  induction bytes generalizing i s with
  | nil => rfl
  | cons b bytes ih =>
    have hl' : i + 1 + bytes.length < len := by simpa [Nat.add_assoc, Nat.add_comm 1] using hl
    have hne : i + 1 ≠ len := by omega
    have hlt : i < s.cfg.txCap := by omega
    have hi : i + (b :: bytes).length = i + 1 + bytes.length := by simp [Nat.add_assoc, Nat.add_comm 1]
    simp only [List.map_cons, List.cons_append, takeData, dataRsv_setWidth, dataByte_setWidth, ne_eq, not_true, if_false,
      putTxbuf_of_lt hlt, andThen_next, hne, hi]
    exact ih (s := { s with txbuf := s.txbuf.write i b }) hl' hc

/-- A bad word after good ones faults; MODE and TXLEN are not written. -/
theorem takeData_bad {len : Nat} {d : ScratchDraws} (bytes : List Byte) {bad : Word} (rest : List Word) {i : Nat} {s : State}
    (hl : i + bytes.length < len) (hc : len ≤ s.cfg.txCap) (hb : dataRsv bad ≠ 0#24) :
    takeData len d ((bytes.map fun b => b.setWidth 32) ++ bad :: rest) i s =
      .next (raiseFault .reservedField bad
        { s with txbuf := s.txbuf.writeList i bytes, loadcnt := d.loadcnt }) := by
  rw [takeData_append bytes _ hl hc]
  simp [takeData, hb]

/-- LEN good words start the transaction; words after them are not taken. -/
theorem takeData_good {len : Nat} {d : ScratchDraws} (bytes : List Byte) (last : Byte) (rest : List Word) {i : Nat} {s : State}
    (hl : i + bytes.length + 1 = len) (hc : len ≤ s.cfg.txCap) :
    takeData len d ((bytes.map fun b => b.setWidth 32) ++ last.setWidth 32 :: rest) i s =
      .next (txnStart { s with
        txbuf := (s.txbuf.writeList i bytes).write (i + bytes.length) last
        mode := .execTxn
        txlen := BitVec.ofNat 8 len }) := by
  rw [takeData_append bytes _ (by omega) hc]
  have hlt : i + bytes.length < s.cfg.txCap := by omega
  simp [takeData, putTxbuf, hlt, hl]

end Sys2Proof.Machine
end

