-- ==== Sys2Proof/Laws/PerInstr.lean ====
section
/-! SUPPORT. Statements made per command, about the command as syntax: its word carries the opcode the table gives it. -/

namespace Sys2Proof

/-- The opcode of a command (30_encoding.md R82). -/
def opcodeOf : Instr → BitVec 4
  | .initLine => 1#4
  | .execTxn _ => 2#4
  | .readByte _ => 3#4
  | .readBytes _ _ => 4#4
  | .detect => 5#4

/-- The command's word has the command's opcode and the reserved byte 0 (30_encoding.md R81, R82). -/
def Laws.Opcode.Statement (i : Instr) : Prop :=
  fieldOp (encode i) = opcodeOf i ∧ fieldRsv (encode i) = 0#8

theorem Laws.Opcode.initLine : Laws.Opcode.Statement .initLine := by
  simp [Laws.Opcode.Statement, encode, opcodeOf]

theorem Laws.Opcode.execTxn (len : Nat) : Laws.Opcode.Statement (.execTxn len) := by
  simp [Laws.Opcode.Statement, encode, opcodeOf]

theorem Laws.Opcode.readByte (off : Nat) : Laws.Opcode.Statement (.readByte off) := by
  simp [Laws.Opcode.Statement, encode, opcodeOf]

theorem Laws.Opcode.readBytes (off n : Nat) : Laws.Opcode.Statement (.readBytes off n) := by
  simp [Laws.Opcode.Statement, encode, opcodeOf]

theorem Laws.Opcode.detect : Laws.Opcode.Statement .detect := by
  simp [Laws.Opcode.Statement, encode, opcodeOf]

end Sys2Proof
end

