-- ==== Sys2Proof/Laws/Step.lean ====
section
/-! SUPPORT. What a step can do, once: the reset tick, or the block's transition with the tick's end. -/

namespace Sys2Proof.Machine

/-- A step without reset is the block's transition and the tick's end. -/
theorem step_of_not_rst {s : State} (h : s.rstNow = false) : step s = onNext (blockStep s) (endTick s) := by
  simp [step, tickOnce, h]

/-- A step with reset is the reset tick. -/
theorem step_of_rst {s : State} (h : s.rstNow = true) : step s = .next (resetTick s) := by
  simp [step, tickOnce, h]

/-- What a step that answers a next state did. -/
theorem step_cases {s t : State} (h : step s = .next t) :
    (s.rstNow = true ∧ t = resetTick s) ∨
    (s.rstNow = false ∧ ∃ u, blockStep s = .next u ∧ t = endTick s u) := by
  cases hr : s.rstNow
  · rw [step_of_not_rst hr] at h
    obtain ⟨u, hu, rfl⟩ := onNext_eq_next.mp h
    exact .inr ⟨rfl, u, hu, rfl⟩
  · rw [step_of_rst hr] at h
    cases h
    exact .inl ⟨rfl, rfl⟩

/-- A word is accepted only in IDLE with RSPQ empty, or in LOAD (10_state.md R43). -/
theorem accepted_ready {s : State} {w : Word} (h : s.accepted = some w) :
    s.rstNow = false ∧ s.cmdWord = some w ∧ (s.ready = true ∨ s.ctl = .load) := by
  unfold State.accepted at h
  split at h
  · next hc =>
    simp only [State.cmdReady, Bool.and_eq_true, Bool.not_eq_true', Bool.or_eq_true, beq_iff_eq] at hc
    exact ⟨hc.1, h, hc.2⟩
  · cases h

/-- Outside IDLE and LOAD no word is accepted (41_transaction.md R152). -/
theorem accepted_none_of_ctl {s : State} (h1 : s.ctl ≠ .idle) (h2 : s.ctl ≠ .load) : s.accepted = none := by
  cases ha : s.accepted with
  | none => rfl
  | some w =>
    rcases (accepted_ready ha).2.2 with h | h
    · exact absurd ((ready_iff s).mp h).1 h1
    · exact absurd h h2

/-- What a command at the port did when it answered a next state. -/
theorem performCmd_next {i : Instr} {s t : State} {body : State → Result} (h : performCmd i s body = .next t) :
    (s.ready = false ∧ t = s) ∨
    (s.ready = true ∧ ∃ c, checkCmd i s = some c ∧ t = raiseFault c (encode i) s) ∨
    (s.ready = true ∧ checkCmd i s = none ∧ body s = .next t) := by
  rcases performCmd_cases i s body with ⟨h1, h2⟩ | ⟨h1, c, h2, h3⟩ | ⟨h1, h2, h3⟩
  · rw [h2] at h; cases h; exact .inl ⟨h1, rfl⟩
  · rw [h3] at h; cases h; exact .inr (.inl ⟨h1, c, h2, rfl⟩)
  · rw [h3] at h; exact .inr (.inr ⟨h1, h2, h⟩)

/-- What INIT_LINE does when exec answers a next state. -/
theorem exec_initLine_next {s t : State} (h : exec .initLine s = .next t) :
    (s.ready = false ∧ t = s) ∨
    (s.ready = true ∧ t = { s with dir := false, out := false, dbgDir := true, dbgOut := false, lineInit := true }) := by
  simp only [exec, execInitLine] at h
  rcases performCmd_next h with h' | ⟨-, c, hc, -⟩ | ⟨h1, -, h2⟩
  · exact .inl h'
  · cases hc
  · cases h2; exact .inr ⟨h1, rfl⟩

/-- What EXEC_TXN's header does when exec answers a next state. -/
theorem exec_execTxn_next {len : Nat} {s t : State} (h : exec (.execTxn len) s = .next t) :
    (s.ready = false ∧ t = s) ∨
    (s.ready = true ∧ ∃ c, checkCmd (.execTxn len) s = some c ∧ t = raiseFault c (encode (.execTxn len)) s) ∨
    (s.ready = true ∧ checkCmd (.execTxn len) s = none ∧
      t = { s with txlen := BitVec.ofNat 8 len, loadcnt := 0#8, mode := .execTxn, ctl := .load }) := by
  simp only [exec, execExecTxn] at h
  rcases performCmd_next h with h' | h' | ⟨h1, h2, h3⟩
  · exact .inl h'
  · exact .inr (.inl h')
  · cases h3; exact .inr (.inr ⟨h1, h2, rfl⟩)

/-- What READ_BYTE does when exec answers a next state. -/
theorem exec_readByte_next {off : Nat} {s t : State} (h : exec (.readByte off) s = .next t) :
    (s.ready = false ∧ t = s) ∨
    (s.ready = true ∧ ∃ c, checkRead off 1 s = some c ∧ t = raiseFault c (encode (.readByte off)) s) ∨
    (s.ready = true ∧ checkRead off 1 s = none ∧ t = respond (s.wbufByte (byteIndex off)) s) := by
  simp only [exec, execReadByte] at h
  rcases performCmd_next h with h' | h' | ⟨h1, h2, h3⟩
  · exact .inl h'
  · exact .inr (.inl h')
  · cases h3; exact .inr (.inr ⟨h1, h2, rfl⟩)

/-- What READ_BYTES does when exec answers a next state. -/
theorem exec_readBytes_next {off n : Nat} {s t : State} (h : exec (.readBytes off n) s = .next t) :
    (s.ready = false ∧ t = s) ∨
    (s.ready = true ∧ ∃ c, checkRead off n s = some c ∧ t = raiseFault c (encode (.readBytes off n)) s) ∨
    (s.ready = true ∧ checkRead off n s = none ∧ t = respondAll (s.wbuf.readList (byteIndex off) n) s) := by
  simp only [exec, execReadBytes] at h
  rcases performCmd_next h with h' | h' | ⟨h1, h2, h3⟩
  · exact .inl h'
  · exact .inr (.inl h')
  · cases h3; exact .inr (.inr ⟨h1, h2, rfl⟩)

/-- What DETECT does when exec answers a next state. -/
theorem exec_detect_next {s t : State} (h : exec .detect s = .next t) :
    (s.ready = false ∧ t = s) ∨
    (s.ready = true ∧ s.lineInit = false ∧ t = raiseFault .notInitialized (encode .detect) s) ∨
    (s.ready = true ∧ s.lineInit = true ∧ 0 < s.cfg.txCap ∧
      t = txnStart { s with txbuf := s.txbuf.write 0 s.cfg.idCmd, txlen := 1#8, mode := .detect }) := by
  simp only [exec, execDetect] at h
  rcases performCmd_next h with h' | ⟨h1, c, h2, h3⟩ | ⟨h1, h2, h3⟩
  · exact .inl h'
  · cases hl : s.lineInit
    · simp only [checkCmd, checkInit, hl, if_true, Option.some.injEq] at h2
      exact .inr (.inl ⟨h1, rfl, by rw [h3, ← h2]⟩)
    · simp [checkCmd, checkInit, hl] at h2
  · obtain ⟨u, hu, rfl⟩ := onNext_eq_next.mp h3
    obtain ⟨hlt, rfl⟩ := putTxbuf_eq_next hu
    have hl : s.lineInit = true := by
      cases hb : s.lineInit
      · simp [checkCmd, checkInit, hb] at h2
      · rfl
    exact .inr (.inr ⟨h1, hl, hlt, rfl⟩)

/-- What the block does in a tick without reset, by what is accepted and by STATE (41_transaction.md R152). -/
theorem blockStep_cases {s u : State} (h : blockStep s = .next u) :
    (∃ w, s.accepted = some w ∧ s.ctl = .load ∧ loadWord w s = .next u) ∨
    (∃ w i, s.accepted = some w ∧ s.ready = true ∧ decode w = .ok i ∧ exec i s = .next u) ∨
    (∃ w e, s.accepted = some w ∧ s.ready = true ∧ decode w = .error e ∧ u = raiseFault (rejectCause e) w s) ∨
    (s.accepted = none ∧ (s.ctl = .idle ∨ s.ctl = .load ∨ s.ctl = .faulted) ∧ u = s) ∨
    (s.ctl = .tx ∧ s.txidx.toNat < s.cfg.txCap ∧ u = txAdvance s) ∨
    (s.ctl = .txStop ∧ u = txStopTick s) ∨
    (s.ctl = .rxWait ∧ u = rxWaitTick s) ∨
    (s.ctl = .rxBit ∧ u = rxBitTick s) ∨
    (s.ctl = .rxGap ∧ u = rxGapTick s) ∨
    (s.ctl = .postDelay ∧ u = postDelayTick s) ∨
    (s.ctl = .classify ∧ u = classifyTick s) := by
  unfold blockStep at h
  cases ha : s.accepted with
  | some w =>
    simp only [ha] at h
    obtain ⟨-, -, hr⟩ := accepted_ready ha
    unfold acceptWord at h
    by_cases hl : s.ctl = .load
    · rw [if_pos hl] at h
      exact .inl ⟨w, rfl, hl, h⟩
    · rw [if_neg hl] at h
      have hr' := hr.resolve_right hl
      cases hd : decode w with
      | ok i => rw [hd] at h; exact .inr (.inl ⟨w, i, rfl, hr', hd, h⟩)
      | error e =>
        rw [hd] at h
        cases h
        exact .inr (.inr (.inl ⟨w, e, rfl, hr', hd, rfl⟩))
  | none =>
    simp only [ha, blockTick] at h
    cases hc : s.ctl <;> simp only [hc] at h
    case tx =>
      unfold txTick at h
      split at h
      · next hlt => cases h; simp [hlt]
      · cases h
    all_goals cases h; simp

/-- The word of a decoded command is the word decoded (30_encoding.md R83). -/
theorem encode_of_decode {w : Word} {i : Instr} (h : decode w = .ok i) : encode i = w := by
  have hw := packCmd_fields w
  rcases decode_ok h with ⟨rfl, h1, h2, h3, h4⟩ | ⟨rfl, h1, h3, h4⟩ | ⟨rfl, h1, h3, h4⟩ | ⟨rfl, h1, h4⟩ | ⟨rfl, h1, h2, h3, h4⟩ <;>
    simpa [encode, *] using hw

/-- The block's transition in a tick without reset, by what it writes: every case of 41_transaction.md R152. -/
theorem blockStep_effects {s u : State} (h : blockStep s = .next u) :
    -- nothing
    (s.accepted = none ∧ (s.ctl = .idle ∨ s.ctl = .load ∨ s.ctl = .faulted) ∧ u = s) ∨
    -- a fault
    (∃ w c, s.accepted = some w ∧ (s.ctl = .idle ∨ s.ctl = .load) ∧ c ≠ .none ∧ u = raiseFault c w s) ∨
    -- INIT_LINE
    (s.accepted = some 1#32 ∧ s.ctl = .idle ∧
      u = { s with dir := false, out := false, dbgDir := true, dbgOut := false, lineInit := true }) ∨
    -- EXEC_TXN's header
    (∃ w len, s.accepted = some w ∧ s.ctl = .idle ∧ 1 ≤ len ∧ len ≤ s.cfg.txCap ∧ s.lineInit = true ∧
      u = { s with txlen := BitVec.ofNat 8 len, loadcnt := 0#8, mode := .execTxn, ctl := .load }) ∨
    -- a read
    (∃ w q, s.accepted = some w ∧ s.ctl = .idle ∧ q.length ≤ Config.bufCap ∧ u = { s with rspq := q }) ∨
    -- DETECT
    (∃ w, s.accepted = some w ∧ s.ctl = .idle ∧ s.lineInit = true ∧ 0 < s.cfg.txCap ∧
      u = txnStart { s with txbuf := s.txbuf.write 0 s.cfg.idCmd, txlen := 1#8, mode := .detect }) ∨
    -- a DATA word
    (∃ w, s.accepted = some w ∧ s.ctl = .load ∧ s.loadcnt.toNat < s.cfg.txCap ∧
      u = loadAdvance { s with txbuf := s.txbuf.write s.loadcnt.toNat (dataByte w) }) ∨
    -- TX, TX_STOP
    (s.ctl = .tx ∧ s.txidx.toNat < s.cfg.txCap ∧ u = txAdvance s) ∨
    (s.ctl = .txStop ∧ u = txStopTick s) ∨
    -- the receiver
    (s.ctl = .rxWait ∧ u = rxWaitTick s) ∨
    (s.ctl = .rxBit ∧ u = rxBitTick s) ∨
    (s.ctl = .rxGap ∧ u = rxGapTick s) ∨
    -- POST_DELAY, CLASSIFY
    (s.ctl = .postDelay ∧ u = postDelayTick s) ∨
    (s.ctl = .classify ∧ u = classifyTick s) := by
  rcases blockStep_cases h with ⟨w, ha, hc, hl⟩ | ⟨w, i, ha, hr, hd, he⟩ | ⟨w, e, ha, hr, hd, rfl⟩ | ⟨h1, h2, rfl⟩ | h | h | h |
    h | h | h | h
  · rcases loadWord_cases hl with ⟨-, rfl⟩ | ⟨-, h1, rfl⟩
    · exact .inr (.inl ⟨w, _, ha, .inr hc, by simp, rfl⟩)
    · iterate 6 apply Or.inr
      exact .inl ⟨w, ha, hc, h1, rfl⟩
  · obtain ⟨hi, hq⟩ := (ready_iff s).mp hr
    have hw := encode_of_decode hd
    have fault : ∀ c, checkCmd i s = some c → u = raiseFault c (encode i) s →
        ∃ w c, s.accepted = some w ∧ (s.ctl = .idle ∨ s.ctl = .load) ∧ c ≠ .none ∧ u = raiseFault c w s :=
      fun c hc hu => ⟨w, c, ha, .inl hi, checkCmd_ne_none hc, by rw [hu, hw]⟩
    cases i with
    | initLine =>
      rcases exec_initLine_next he with ⟨h, -⟩ | ⟨-, rfl⟩
      · simp [hr] at h
      · exact .inr (.inr (.inl ⟨by rw [ha, ← hw]; decide, hi, rfl⟩))
    | execTxn len =>
      rcases exec_execTxn_next he with ⟨h, -⟩ | ⟨-, c, hc, hu⟩ | ⟨-, hc, rfl⟩
      · simp [hr] at h
      · exact .inr (.inl (fault c hc hu))
      · obtain ⟨h1, h2, h3⟩ := (checkCmd_execTxn_eq_none len s).mp hc
        exact .inr (.inr (.inr (.inl ⟨w, len, ha, hi, h2, h3, h1, rfl⟩)))
    | readByte off =>
      rcases exec_readByte_next he with ⟨h, -⟩ | ⟨-, c, hc, hu⟩ | ⟨-, -, rfl⟩
      · simp [hr] at h
      · exact .inr (.inl (fault c hc hu))
      · iterate 4 apply Or.inr
        exact .inl ⟨w, _, ha, hi, by simp [hq, Config.bufCap], rfl⟩
    | readBytes off n =>
      rcases exec_readBytes_next he with ⟨h, -⟩ | ⟨-, c, hc, hu⟩ | ⟨-, hc, hu⟩
      · simp [hr] at h
      · exact .inr (.inl (fault c hc hu))
      · have hn := (checkRead_eq_none off n s).mp hc
        rw [respondAll_eq] at hu
        iterate 4 apply Or.inr
        exact .inl ⟨w, _, ha, hi, by simp [hq]; omega, hu⟩
    | detect =>
      rcases exec_detect_next he with ⟨h, -⟩ | ⟨-, h1, hu⟩ | ⟨-, h1, h2, rfl⟩
      · simp [hr] at h
      · exact .inr (.inl (fault _ (by simp [checkCmd, checkInit, h1]) hu))
      · iterate 5 apply Or.inr
        exact .inl ⟨w, ha, hi, h1, h2, rfl⟩
  · exact .inr (.inl ⟨w, _, ha, .inl ((ready_iff s).mp hr).1, by cases e <;> simp [rejectCause], rfl⟩)
  · exact .inl ⟨h1, h2, rfl⟩
  all_goals iterate 7 apply Or.inr
  · exact .inl h
  · exact .inr (.inl h)
  · exact .inr (.inr (.inl h))
  · exact .inr (.inr (.inr (.inl h)))
  · exact .inr (.inr (.inr (.inr (.inl h))))
  · exact .inr (.inr (.inr (.inr (.inr (.inl h)))))
  · exact .inr (.inr (.inr (.inr (.inr (.inr h)))))

end Sys2Proof.Machine
end

