-- ==== Sys2Proof/Tests/Slice0.lean ====
section
/-! SUPPORT. Small tests, their expected values taken from 95_test_vectors.md or by hand from the rule named, and the witnesses:
for each statement with hypotheses, states and operands that meet all of them together. -/

namespace Sys2Proof.Tests

open Sys2Proof.Machine

/-! ### Ill-formed commands are refused by the check, one per check (30_encoding.md R91) -/

theorem test_wf_execTxn_len : (Instr.execTxn 4096).wf = false := by decide
theorem test_wf_readByte_off : (Instr.readByte 4096).wf = false := by decide
theorem test_wf_readBytes_off : (Instr.readBytes 4096 1).wf = false := by decide
theorem test_wf_readBytes_n : (Instr.readBytes 0 256).wf = false := by decide
/-- EncodeThenDecode: every operand at the highest value of its field. -/
theorem test_wf_boundaries : Instr.initLine.wf ∧ (Instr.execTxn 4095).wf ∧ (Instr.readByte 4095).wf ∧
    (Instr.readBytes 4095 255).wf ∧ Instr.detect.wf := by decide

/-! ### Decoding: words written out from 30_encoding.md R81-R83 -/

/-- Bits 0000 0001 in [3:0], all else 0. -/
theorem test_decode_initLine : decodeTableWord 32 0x00000001 = some .initLine := by decide
/-- LEN = 0x123 in [15:4], OP = 0010. -/
theorem test_decode_execTxn : decodeTableWord 32 0x00001232 = some (.execTxn 0x123) := by decide
/-- OFF = 312 = 0x138 in [15:4], OP = 0011 (vector B6). -/
theorem test_decode_readByte : decodeTableWord 32 0x00001383 = some (.readByte 312) := by decide
/-- N = 2 in [23:16], OFF = 312 in [15:4], OP = 0100 (vector B15). -/
theorem test_decode_readBytes : decodeTableWord 32 0x00021384 = some (.readBytes 312 2) := by decide
/-- OP = 0101, all else 0. -/
theorem test_decode_detect : decodeTableWord 32 0x00000005 = some .detect := by decide
theorem test_decode_reservedOpcode : decodeTableWord 32 0x0000000F = none := by decide
/-- Vectors E4, E6, E10, E12 and B on READ_BYTE: bits outside the fields. -/
theorem test_decode_reservedField : [0x00000011, 0x00010012, 0x00010003, 0x80000004, 0x00000105].map
    (fun w => decodeTableWord 32 w) = [none, none, none, none, none] := by decide
/-- `READ16 8` of 30_encoding.md R92 is vector B10's word. -/
theorem test_assemble_read16 : assembleLine {} (.read16 8) = some [0x00020084#32] := by decide
theorem test_assemble_execTxn : assembleLine {} (.execTxn [0x01#8]) = some [0x00000012#32, 0x00000001#32] := by decide
theorem test_assemble_refused : assembleLine {} (.readBytes 0 256) = none := by decide

/-! ### States -/

/-- What `p` says of the next state; false where there is none. -/
def onState (r : Result) (p : State → Bool) : Bool :=
  match r with
  | .next s => p s
  | .fault _ => false
  | .refused _ => false

/-- After reset and INIT_LINE, no device attached. -/
def sInit : State := { State.reset with lineInit := true, dbgDir := true, bus := .absent }

/-- Before INIT_LINE. -/
def sBoot : State := { State.reset with bus := .absent }

/-- Start state B of 95_test_vectors.md: a reply 12 34 56 78. -/
def sB : State :=
  { sInit with bufValid := true, rxcount := 4#8, wbuf := [(0, 0x12#8), (1, 0x34#8), (2, 0x56#8), (3, 0x78#8)] }

/-- A full buffer of 40 bytes, the last 0x9A. -/
def sFull : State := { sInit with bufValid := true, rxcount := 40#8, wbuf := [(39, 0x9A#8)] }

/-- Parameters with the shortest durations 00_scope.md R11 allows. -/
def cfgFast : Config :=
  { tickNs := 60000, t0Low := 1, t0High := 1, t1Low := 1, t1High := 1, tstopLow := 1, tSample := 1, tGap := 2
    tRxTimeout := 1, tPost := 1 }

/-- In LOAD, `k` of `n` bytes stored. -/
def sLoad (n k : BitVec 8) : State := { sInit with ctl := .load, txlen := n, loadcnt := k }

/-- Just after TXN_START of a one-byte transaction. -/
def sTx : State := { sInit with ctl := .tx, mode := .detect, dir := true, ie := false, txlen := 1#8, savedIe := true }

/-- `sTx` with the shortest durations. -/
def sTxFast : State := { sTx with cfg := cfgFast }

/-- Receiving, `n` bits so far, TIMER = `tm`, the line last seen at `p`, the device's drive now `d`. -/
def sRx (c : Ctl) (n tm : BitVec 16) (p d : Bool) : State :=
  { sInit with ctl := c, ie := false, savedIe := true, nbits := n, timer := tm, prev := p, bus := .present [d] }

/-- In POST_DELAY, right after TXN_END with count 3. -/
def sPost (m : TxnMode) : State :=
  { sInit with ctl := .postDelay, mode := m, rxcount := 3#8, bufValid := true, wbuf := [(0, 0x08#8), (1, 0x20#8)] }

/-- In CLASSIFY with count `n` and the bytes `hi`, `lo` (0x01 to 0xFF). -/
def sClassify (n : BitVec 8) (hi lo : Byte) : State :=
  { sInit with ctl := .classify, rxcount := n, bufValid := true, wbuf := [(0, hi), (1, lo)] }

/-- After a fault. -/
def sFault : State := { sInit with ctl := .faulted, faultCause := .staleRead, faultInfo := 3#32 }

/-- `s` with a word on the command port and the host ready to take responses or not. -/
def withHost (s : State) (w : Word) (r : Bool) : State :=
  { s with host := { s.host with cmd := [some w], rspReady := [r] } }

/-! ### One step of each command, and of the machine -/

/-- Vector W5. -/
theorem test_initLine_w5 : onState (exec .initLine sBoot) (fun t =>
    !t.dir && !t.out && t.dbgDir && !t.dbgOut && t.lineInit && t.status == 0x00000002#32) = true := by decide
/-- Vector E4. -/
theorem test_initLine_e4 : onState (step (withHost sInit 0x00000011#32 true)) (fun t =>
    t.status == 0x0000F20A#32 && t.faultInfo == 0x00000011#32) = true := by decide
/-- Vector E9. -/
theorem test_execTxn_e9 : onState (step (withHost sInit 0x00000282#32 true)) (fun t =>
    t.status == 0x00001003#32 && t.txlen == 40#8) = true := by decide
/-- Vector E8. -/
theorem test_execTxn_e8 : onState (step (withHost sInit 0x00000292#32 true)) (fun t => t.status == 0x0000F40A#32) = true := by
  decide
/-- Vector B3. -/
theorem test_readByte_b3 : onState (exec (.readByte 24) sB) (fun t => t.rspq == [0x78#32]) = true := by decide
/-- Vector B8: alignment before range. -/
theorem test_readByte_b8 : onState (step (withHost sB 0x0000FFF3#32 true)) (fun t => t.faultCause == .misalignedOffset) = true := by
  decide
/-- Vector B10. -/
theorem test_readBytes_b10 : onState (exec (.readBytes 8 2) sB) (fun t => t.rspq == [0x34#32, 0x56#32]) = true := by decide
/-- Vector B15. -/
theorem test_readBytes_b15 : onState (exec (.readBytes 312 2) sB) (fun t => t.faultCause == .outOfRange) = true := by decide
/-- By hand from 41_transaction.md R140. -/
theorem test_detect_start : onState (exec .detect sB) (fun t =>
    t.ctl == .tx && t.dir && !t.ie && t.savedIe && !t.bufValid && t.txlen == 1#8) = true := by decide
/-- Vector E13. -/
theorem test_detect_e13 : onState (step (withHost sBoot 5#32 true)) (fun t => t.status == 0x0000F308#32) = true := by decide
/-- Vector E17, the second word. -/
theorem test_load_e17 : onState (acceptWord 0xCD#32 { sLoad 2#8 1#8 with txbuf := [(0, 0xAB#8)] }) (fun t =>
    t.txbuf == [(0, 0xAB#8), (1, 0xCD#8)] && t.ctl == .tx) = true := by decide
/-- Vector E18. -/
theorem test_load_e18 : onState (acceptWord 0x100#32 (sLoad 2#8 1#8)) (fun t =>
    t.faultCause == .reservedField && t.faultInfo == 0x100#32 && t.ie) = true := by decide
/-- Vector P7: 321 bits end as 40 bytes. -/
theorem test_rxOutcome_p7 : rxOutcome 321 = 40#8 ∧ rxOutcome 24 = 0xFF#8 ∧ rxOutcome 1 = 0xFF#8 := by decide
/-- The packing vector of 95_test_vectors.md: 0 0 0 0 0 1 0 1 gives 0x05. -/
theorem test_packBit : ([false, false, false, false, false, true, false, true].foldl (fun t b => packBit b t) sInit).wbuf
    = [(0, 0x05#8)] := by decide
/-- Vector C3. -/
theorem test_classify_c3 : onState (blockStep (sClassify 3#8 0x08#8 0x20#8)) (fun t => t.rspq == [3#32]) = true := by decide
/-- Vector T3 at Level T. -/
theorem test_levelT_t3 : onState (stepT 0x12#32 [0#32] (.ok [0x05#8, 0x00#8, 0x01#8])
    { timer := 0#16, txidx := 0#8, bitidx := 0#3, phase := .low, nbits := 0#16, shift := 0#8, prev := true, loadcnt := 0#8
      wbufAfterError := [] } sInit) (fun t => t.rspq == [3#32] && t.status == 0x00030006#32 && t.ie) = true := by decide
/-- Vector E18 at Level T: the fault of the second DATA word, with MODE and TXLEN not written (41_transaction.md R130). -/
theorem test_levelT_e18 : onState (stepT 0x22#32 [0xAB#32, 0x100#32] .timeout
    { timer := 0#16, txidx := 0#8, bitidx := 0#3, phase := .low, nbits := 0#16, shift := 0#8, prev := true, loadcnt := 1#8
      wbufAfterError := [] } { sInit with mode := .detect, txlen := 1#8 }) (fun t =>
    t.faultCause == .reservedField && t.faultInfo == 0x100#32 && t.mode == .detect && t.txlen == 1#8 && t.ie
      && t.txbuf == [(0, 0xAB#8)]) = true := by decide
/-- A reset tick from FAULTED (70_reset_and_hazards.md R240). -/
theorem test_reset_tick : onState (step { sFault with rst := [true] }) (fun t =>
    t.ctl == .idle && !t.lineInit && t.faultInfo == 0#32 && t.ie) = true := by decide
/-- The table's words run as the first instruction after reset (log 18). -/
theorem test_withFetchWord : onState (step (State.reset.withFetchWord 32 0x00000001)) (fun t => t.lineInit) = true := by
  decide

/-! ### The invariant holds in states of the tests -/

theorem test_witness_inv_idle : BlockInv sB := by
  refine ⟨⟨?_, ?_, ?_, ?_, ?_, ?_⟩, ?_, ?_, ?_, ?_, ?_, ?_, ?_, ?_, ?_, ?_, ?_, ?_, ?_⟩ <;> decide
theorem test_witness_inv_txnStart : BlockInv sTxFast ∧ BlockInv sTx := by
  refine ⟨⟨⟨?_, ?_, ?_, ?_, ?_, ?_⟩, ?_, ?_, ?_, ?_, ?_, ?_, ?_, ?_, ?_, ?_, ?_, ?_, ?_⟩,
    ⟨⟨?_, ?_, ?_, ?_, ?_, ?_⟩, ?_, ?_, ?_, ?_, ?_, ?_, ?_, ?_, ?_, ?_, ?_, ?_, ?_⟩⟩ <;> decide
theorem test_witness_inv_postDelay : BlockInv (sPost .detect) := by
  refine ⟨⟨?_, ?_, ?_, ?_, ?_, ?_⟩, ?_, ?_, ?_, ?_, ?_, ?_, ?_, ?_, ?_, ?_, ?_, ?_, ?_⟩ <;> decide
theorem test_witness_inv_faulted : BlockInv sFault := by
  refine ⟨⟨?_, ?_, ?_, ?_, ?_, ?_⟩, ?_, ?_, ?_, ?_, ?_, ?_, ?_, ?_, ?_, ?_, ?_, ?_, ?_⟩ <;> decide
theorem test_witness_inv_load : BlockInv (withHost (sLoad 2#8 1#8) 0xCD#32 true) := by
  refine ⟨⟨?_, ?_, ?_, ?_, ?_, ?_⟩, ?_, ?_, ?_, ?_, ?_, ?_, ?_, ?_, ?_, ?_, ?_, ?_, ?_⟩ <;> decide
theorem test_witness_inv_rxBit : BlockInv (sRx .rxBit 7#16 7#16 true false) ∧ BlockInv (sRx .rxBit 6#16 7#16 true false) := by
  refine ⟨⟨⟨?_, ?_, ?_, ?_, ?_, ?_⟩, ?_, ?_, ?_, ?_, ?_, ?_, ?_, ?_, ?_, ?_, ?_, ?_, ?_⟩,
    ⟨⟨?_, ?_, ?_, ?_, ?_, ?_⟩, ?_, ?_, ?_, ?_, ?_, ?_, ?_, ?_, ?_, ?_, ?_, ?_, ?_⟩⟩ <;> decide
theorem test_witness_atTxnStart : AtTxnStart sTxFast ∧ AtTxnStart sTx := by
  refine ⟨⟨?_, ?_, ?_, ?_, ?_, ?_, ?_, ?_, ?_, ?_⟩, ⟨?_, ?_, ?_, ?_, ?_, ?_, ?_, ?_, ?_, ?_⟩⟩ <;> decide

/-! ### Witnesses, statement by statement -/

/-- DecodeThenEncode, DecodeFollowsTable. -/
theorem test_witness_decode : decode 0x00FFFFF4#32 = .ok (.readBytes 4095 255) := by rfl
/-- DecodeFollowsTable: the three verdicts at the edges of the opcode range. -/
theorem test_witness_decode_edges : fieldOp 0#32 = 0#4 ∧ 6 ≤ (fieldOp 6#32).toNat ∧ (fieldOp 0x105#32).toNat = 5 := by decide
/-- ResetBeatsEverything. -/
theorem test_witness_reset : { sTx with rst := [true] }.rstNow = true := by decide
/-- InitLineCompletes, StatusAfterBoot: FORCE_KB false and true; the lowest and the highest reserved bit. -/
theorem test_witness_initLine : sBoot.ready = true ∧ sBoot.cfg.forceKb = false ∧ fieldOp 0x11#32 = 1#4 ∧
    (0x11#32).extractLsb' 4 28 ≠ 0#28 ∧ fieldOp 0x80000001#32 = 1#4 ∧ (0x80000001#32).extractLsb' 4 28 ≠ 0#28 := by decide
/-- ExecTxnHeaderCompletes: LEN = 1 and LEN = TX_CAP. -/
theorem test_witness_execTxn : sInit.ready = true ∧ sInit.lineInit = true ∧ 1 ≤ 1 ∧ 40 ≤ sInit.cfg.txCap ∧ sInit.cfg.wf = true := by
  decide
/-- LoadWordCompletes: the bad words at bits 8 and 31, the next to last byte and the last one, no word. -/
theorem test_witness_load : (sLoad 40#8 38#8).ctl = .load ∧ dataRsv 0x100#32 ≠ 0#24 ∧ dataRsv 0x80000000#32 ≠ 0#24 ∧
    dataRsv 0xFF#32 = 0#24 ∧ (sLoad 40#8 38#8).loadcnt.toNat + 1 ≠ (sLoad 40#8 38#8).txlen.toNat ∧
    (sLoad 40#8 39#8).loadcnt.toNat < (sLoad 40#8 39#8).cfg.txCap ∧
    (sLoad 40#8 39#8).loadcnt.toNat + 1 = (sLoad 40#8 39#8).txlen.toNat ∧ (sLoad 40#8 38#8).accepted = none := by decide
/-- ReadByteCompletes: the first and the last byte. -/
theorem test_witness_readByte : sFull.ready = true ∧ 0 % 8 = 0 ∧ 0 / 8 + 1 ≤ Config.bufCap ∧ 312 % 8 = 0 ∧
    312 / 8 + 1 ≤ Config.bufCap ∧ sFull.bufValid = true ∧ 312 / 8 + 1 ≤ sFull.rxcount.toNat := by decide
/-- ReadBytesCompletes: N = 0 beyond the buffer, N = 40. -/
theorem test_witness_readBytes : sFull.ready = true ∧ 4088 % 8 = 0 ∧ 0 / 8 + 40 ≤ Config.bufCap ∧ sFull.bufValid = true ∧
    0 / 8 + 40 ≤ sFull.rxcount.toNat := by decide
/-- DetectCompletes. -/
theorem test_witness_detect : sInit.ready = true ∧ sInit.lineInit = true ∧ sInit.cfg.wf = true := by decide
/-- CheckOrder: a word for every cause, and words that pass. -/
theorem test_witness_checkOrder : sInit.ready = true ∧ sBoot.ready = true ∧ sFull.ready = true ∧
    checkWord 0#32 sInit = some .reservedOpcode ∧ checkWord 0x10012#32 sInit = some .reservedField ∧
    checkWord 2#32 sBoot = some .notInitialized ∧ checkWord 0x292#32 sInit = some .txLen ∧
    checkWord 0xFFF3#32 sInit = some .misalignedOffset ∧ checkWord 0x1403#32 sFull = some .outOfRange ∧
    checkWord 0x1383#32 sB = some .staleRead ∧ checkWord 0x282#32 sInit = none ∧ checkWord 0x280004#32 sFull = none := by decide
/-- ReadFaults: OFF = 1 and 4095; the byte past the end; the byte past the reply; an invalid buffer. -/
theorem test_witness_readFaults : sB.ready = true ∧ sInit.ready = true ∧ 1 % 8 ≠ 0 ∧ 4095 % 8 ≠ 0 ∧
    320 / 8 + 1 > Config.bufCap ∧ 312 / 8 + 1 ≤ Config.bufCap ∧ 32 / 8 + 1 > sB.rxcount.toNat ∧ sInit.bufValid = false := by
  decide
/-- TransactionFaults: LEN = 0 and TX_CAP + 1. -/
theorem test_witness_transactionFaults : sBoot.ready = true ∧ sBoot.lineInit = false ∧ sInit.ready = true ∧
    sInit.lineInit = true ∧ 41 > sInit.cfg.txCap := by decide
/-- NotReadyTurnsAway: in LOAD, and in IDLE with a response not drained. -/
theorem test_witness_notReady : (sLoad 2#8 0#8).ctl ≠ .idle ∧ { sB with rspq := [1#32] }.rspq ≠ [] := by decide
/-- FrameStoringNothing: each command answers a next state. -/
theorem test_witness_frame : (∃ t, exec .initLine sB = .next t) ∧ (∃ t, exec (.execTxn 3) sB = .next t) ∧
    (∃ t, exec (.readByte 8) sB = .next t) ∧ ∃ t, exec (.readBytes 8 2) sB = .next t :=
  ⟨⟨_, rfl⟩, ⟨_, rfl⟩, ⟨_, rfl⟩, ⟨_, rfl⟩⟩
/-- FrameOfDetect. -/
theorem test_witness_frameDetect : sB.txbuf.wf sB.cfg.txCap = true ∧ ∃ t, exec .detect sB = .next t :=
  ⟨by decide, ⟨_, rfl⟩⟩
/-- StepRunsDecoded. -/
theorem test_witness_stepRuns : (withHost sB 0x20084#32 true).rstNow = false ∧ (withHost sB 0x20084#32 true).ready = true ∧
    (withHost sB 0x20084#32 true).cmdWord = some 0x20084#32 ∧ decode 0x20084#32 = .ok (.readBytes 8 2) :=
  ⟨by decide, by decide, by decide, rfl⟩
/-- CommandHandshake: IDLE, IDLE with a response waiting, LOAD. -/
theorem test_witness_handshake : (withHost sB 3#32 true).rstNow = false ∧ (withHost sB 3#32 true).cmdWord = some 3#32 ∧
    (∃ t, step (withHost sB 3#32 true) = .next t) ∧
    (∃ t, step (withHost { sB with rspq := [1#32] } 3#32 true) = .next t) ∧
    ∃ t, step (withHost (sLoad 2#8 1#8) 3#32 true) = .next t :=
  ⟨by decide, by decide, ⟨_, rfl⟩, ⟨_, rfl⟩, ⟨_, rfl⟩⟩
/-- ResponsesInOrder: a waiting response, taken and not taken; none waiting. -/
theorem test_witness_responses : (withHost { sB with rspq := [1#32, 2#32] } 3#32 false).rstNow = false ∧
    (∃ t, step (withHost { sB with rspq := [1#32, 2#32] } 3#32 true) = .next t) ∧
    (∃ t, step (withHost { sB with rspq := [1#32, 2#32] } 3#32 false) = .next t) ∧ ∃ t, step sB = .next t :=
  ⟨by decide, ⟨_, rfl⟩, ⟨_, rfl⟩, ⟨_, rfl⟩⟩
/-- TxTick: inside a phase, and at its end. -/
theorem test_witness_txTick : sTx.ctl = .tx ∧ sTx.txidx.toNat < sTx.cfg.txCap ∧
    sTx.timer.toNat + 1 < phaseLen sTx.cfg sTx.phase sTx.txBit ∧
    ¬ { sTx with timer := 11#16 }.timer.toNat + 1 < phaseLen sTx.cfg sTx.phase sTx.txBit := by decide
/-- TxStopTick. -/
theorem test_witness_txStop : { sTx with ctl := Ctl.txStop }.ctl = .txStop := by decide
/-- RxWaitTick: an edge, no edge with time left, the last tick. -/
theorem test_witness_rxWait : (sRx .rxWait 0#16 399#16 true true).ctl = .rxWait ∧
    (sRx .rxWait 0#16 399#16 true true).prev = true ∧ (sRx .rxWait 0#16 399#16 true true).line = false ∧
    (sRx .rxWait 0#16 398#16 false true).prev = false ∧
    (sRx .rxWait 0#16 398#16 false true).timer.toNat + 1 < (sRx .rxWait 0#16 398#16 false true).cfg.tRxTimeout ∧
    (sRx .rxWait 0#16 399#16 true false).line = true ∧
    (sRx .rxWait 0#16 399#16 true false).cfg.tRxTimeout ≤ (sRx .rxWait 0#16 399#16 true false).timer.toNat + 1 := by decide
/-- RxBitTick: before the sample point, the 320th bit (stored), the 321st and the 322nd (the end). -/
theorem test_witness_rxBit : (sRx .rxBit 0#16 6#16 true false).ctl = .rxBit ∧
    (sRx .rxBit 0#16 6#16 true false).timer.toNat + 1 ≠ (sRx .rxBit 0#16 6#16 true false).cfg.tSample ∧
    (sRx .rxBit 319#16 7#16 true false).timer.toNat + 1 = (sRx .rxBit 319#16 7#16 true false).cfg.tSample ∧
    (sRx .rxBit 319#16 7#16 true false).nbits.toNat + 1 ≠ 322 ∧
    (sRx .rxBit 320#16 7#16 true false).nbits.toNat + 1 ≠ 322 ∧
    (sRx .rxBit 321#16 7#16 true false).nbits.toNat + 1 = 322 := by decide
/-- RxGapTick: an edge, the last tick but one, and the end with 9, 321, 24, 1 and 322 bits. -/
theorem test_witness_rxGap : (sRx .rxGap 9#16 23#16 true true).ctl = .rxGap ∧
    (sRx .rxGap 9#16 23#16 true true).prev = true ∧ (sRx .rxGap 9#16 23#16 true true).line = false ∧
    (sRx .rxGap 9#16 22#16 true false).line = true ∧
    (sRx .rxGap 9#16 22#16 true false).timer.toNat + 1 < (sRx .rxGap 9#16 22#16 true false).cfg.tGap ∧
    (sRx .rxGap 9#16 23#16 true false).cfg.tGap ≤ (sRx .rxGap 9#16 23#16 true false).timer.toNat + 1 ∧
    (sRx .rxGap 9#16 23#16 true false).nbits.toNat = 8 * 1 + 1 ∧
    (sRx .rxGap 321#16 23#16 true false).nbits.toNat = 8 * 40 + 1 := by decide
/-- RxGapTick: counts that are not 8m + 1 with m from 1 to 40. -/
theorem test_witness_rxGap_error :
    (¬ ∃ m, 1 ≤ m ∧ m ≤ 40 ∧ (sRx .rxGap 1#16 23#16 true false).nbits.toNat = 8 * m + 1) ∧
    (¬ ∃ m, 1 ≤ m ∧ m ≤ 40 ∧ (sRx .rxGap 24#16 23#16 true false).nbits.toNat = 8 * m + 1) := by
  constructor
  · rintro ⟨m, h1, h2, h3⟩
    have h : (sRx .rxGap 1#16 23#16 true false).nbits.toNat = 1 := by decide
    omega
  · rintro ⟨m, h1, h2, h3⟩
    have h : (sRx .rxGap 24#16 23#16 true false).nbits.toNat = 24 := by decide
    omega
/-- ClassifyTick: counts 0, 2, 3 with and without FORCE_KB. -/
theorem test_witness_classify : (sClassify 0#8 5#8 1#8).ctl = .classify ∧ (sClassify 0#8 5#8 1#8).rxcount = 0#8 ∧
    (sClassify 2#8 5#8 1#8).rxcount ≠ 0#8 ∧ (sClassify 2#8 5#8 1#8).rxcount ≠ 3#8 ∧ (sClassify 3#8 5#8 1#8).rxcount = 3#8 ∧
    (sClassify 3#8 5#8 1#8).cfg.forceKb = false ∧ { sClassify 3#8 5#8 1#8 with cfg := { forceKb := true } }.cfg.forceKb = true := by
  decide
/-- LineIsWiredAnd: each premise. -/
theorem test_witness_line : ¬(sTx.dir = true ∧ sTx.out = true) ∧ { sTx with out := true }.dir = true ∧
    { sTx with out := true }.devLow = false := by decide
/-- LineIsWiredAnd: no device. -/
theorem test_witness_noDevice : sTx.noDevice := rfl
/-- PackedLayout: from no bit to NBITS_MAX bits. -/
theorem test_witness_packed : sInit.nbits = 0#16 ∧ sInit.wbuf.wf Config.bufCap = true ∧
    (List.replicate 322 true).length ≤ Config.nbitsMax ∧ 319 < 8 * min ((List.replicate 322 true).length / 8) Config.bufCap := by
  refine ⟨by decide, by decide, ?_, ?_⟩ <;> rw [List.length_replicate] <;> decide
/-- RunEqualsSingles: a run performed, a run that faults, and the causes that differ. -/
theorem test_witness_run : sB.ready = true ∧ (∃ t, exec (.readBytes (8 * 1) 3) sB = .next t ∧ t.ctl = .idle) ∧
    sInit.ready = true ∧ sInit.bufValid = false ∧ 39 < Config.bufCap ∧ 39 + 2 > Config.bufCap :=
  ⟨by decide, ⟨_, rfl, rfl⟩, by decide, by decide, by decide, by decide⟩
/-- ReadsArePure. -/
theorem test_witness_pure : sB.ready = true ∧ (∃ t, exec (.readByte 8) sB = .next t ∧ t.ctl = .idle) ∧
    ∃ t, exec (.readBytes 8 2) sB = .next t ∧ t.ctl = .idle :=
  ⟨by decide, ⟨_, rfl, rfl⟩, ⟨_, rfl, rfl⟩⟩
/-- PostDelayIsExact, SpacingOfTransactions: both modes. -/
theorem test_witness_postDelay : (sPost .execTxn).ctl = .postDelay ∧ (sPost .execTxn).timer = 0#16 ∧ (sPost .execTxn).rspq = [] ∧
    (sPost .execTxn).cfg.wf = true ∧ (sPost .execTxn).mode = .execTxn ∧ (sPost .detect).mode = .detect := by decide
/-- The reset input of the witnesses stays 0, and their host writes no IE. -/
theorem test_witness_quiet : (sPost .detect).noReset ∧ sTxFast.noReset ∧ sTxFast.ieUntouched ∧ sTxFast.noDevice ∧
    sFault.ieUntouched :=
  ⟨fun _ h => (List.not_mem_nil h).elim, fun _ h => (List.not_mem_nil h).elim, fun _ h => (List.not_mem_nil h).elim, rfl,
    fun _ h => (List.not_mem_nil h).elim⟩
/-- LevelTAbstractsLevelL, NoDeviceTimesOut, TransactionTerminates, FrameDuration: a transaction of the shortest durations
comes to IDLE. -/
theorem test_witness_transaction : ∃ t, runToIdle 30 sTxFast = .next t ∧ t.ctl = .idle := ⟨_, rfl, rfl⟩
/-- InterruptEnablePreserved: the TXN_START tick, and the first tick of the transaction. -/
theorem test_witness_ie : txnPhase (withHost sB 5#32 true).ctl = false ∧
    ∃ u, step (withHost sB 5#32 true) = .next u ∧ u.ctl = .tx ∧ runTicks 0 u = .next u :=
  ⟨by decide, ⟨_, rfl, rfl, rfl⟩⟩
/-- InterruptEnablePreserved: a whole transaction of the shortest durations, from the DETECT word to POST_DELAY. -/
theorem test_witness_ie_end : ∃ u, step (withHost { sInit with cfg := cfgFast } 5#32 true) = .next u ∧ u.ctl = .tx ∧
    (∀ k, k < 18 → ∃ v, runTicks k u = .next v ∧ txnPhase v.ctl = true) ∧
    ∃ t, runTicks 18 u = .next t ∧ t.ctl = .postDelay := by
  refine ⟨_, rfl, rfl, ?_, ⟨_, rfl, rfl⟩⟩
  intro k hk
  interval_cases k <;> exact ⟨_, rfl, rfl⟩
/-- LevelTExecTxn, LevelTDetect: outcomes at the bounds of 41_transaction.md R150. -/
theorem test_witness_levelT : sB.ready = true ∧ sB.lineInit = true ∧ sB.cfg.wf = true ∧ sB.wbuf.wf Config.bufCap = true ∧
    (List.replicate 40 0#8).length ≤ sB.cfg.txCap ∧ outcomeLegal .timeout = true ∧ outcomeLegal .lineError = true ∧
    outcomeLegal (.ok [0#8]) = true ∧ outcomeLegal (.ok (List.replicate 40 0#8)) = true := by decide
/-- LevelTFaults: a bad CMD word; a bad DATA word as the first and as the last of TX_CAP words. -/
theorem test_witness_levelTFaults : sInit.ready = true ∧ checkWord 0x292#32 sInit = some .txLen ∧ sInit.lineInit = true ∧
    sInit.cfg.wf = true ∧ 40 ≤ sInit.cfg.txCap ∧ ([] : List Byte).length < 1 ∧ (List.replicate 39 0xAB#8).length < 40 ∧
    dataRsv 0x100#32 ≠ 0#24 := by decide
/-- AssembledLinesDecode: an empty outbound list and the highest operands; the refused ones are `test_assemble_refused`'s. -/
theorem test_witness_assembled : ([] : List Byte).length ≤ 4095 ∧
    assembleLine {} (.readBytes 4095 255) = some [0x00FFFFF4#32] ∧ assembleLine {} (.readByte 4096) = none := by decide
/-- LineInvariantsHold, InvariantAtReset: draws other than State.reset's. -/
theorem test_witness_draws : sB.cfg.wf = true ∧ (ResetDraws.mk true true true true true [(39, 1#8)] [(0, 2#8)]).wbuf.wf Config.bufCap = true ∧
    (ResetDraws.mk true true true true true [(39, 1#8)] [(0, 2#8)]).txbuf.wf sB.cfg.txCap = true ∧
    ∃ t, runTicks 1 (resetBlock (ResetDraws.mk true true true true true [(39, 1#8)] [(0, 2#8)]) sB) = .next t :=
  ⟨by decide, by decide, by decide, ⟨_, rfl⟩⟩
/-- InvariantKept, ArraysWrittenOnlyByTheirWriters, WritersOfRegisters, InterruptEnableWriters: a step of a state that meets the
invariant (`test_witness_inv_txnStart`). -/
theorem test_witness_step : sTxFast.rstNow = false ∧ ∃ t, step sTxFast = .next t := ⟨by decide, ⟨_, rfl⟩⟩
/-- StateTransitions: one state per clause. -/
theorem test_witness_transitions : sB.rstNow = false ∧ (∃ t, step sB = .next t) ∧ sB.accepted = none ∧
    (withHost sB 3#32 true).accepted = some 3#32 ∧ (withHost (sLoad 2#8 1#8) 3#32 true).accepted = some 3#32 ∧
    (∃ t, step (withHost (sLoad 2#8 1#8) 3#32 true) = .next t) ∧ (∃ t, step sTx = .next t) ∧
    (∃ t, step { sTx with ctl := .txStop } = .next t) ∧ (∃ t, step (sRx .rxWait 0#16 0#16 true true) = .next t) ∧
    (∃ t, step (sRx .rxBit 0#16 7#16 true true) = .next t) ∧ (∃ t, step (sRx .rxGap 9#16 23#16 true false) = .next t) ∧
    (∃ t, step (sPost .detect) = .next t) ∧ (∃ t, step (sClassify 3#8 5#8 1#8) = .next t) ∧ ∃ t, step sFault = .next t :=
  ⟨by decide, ⟨_, rfl⟩, by decide, by decide, by decide, ⟨_, rfl⟩, ⟨_, rfl⟩, ⟨_, rfl⟩, ⟨_, rfl⟩, ⟨_, rfl⟩, ⟨_, rfl⟩, ⟨_, rfl⟩,
    ⟨_, rfl⟩, ⟨_, rfl⟩⟩
/-- FaultedIsQuiescent: no reset, a reset, a held word (with `test_witness_inv_faulted`). -/
theorem test_witness_faulted : sFault.ctl = .faulted ∧ sFault.rstNow = false ∧ { sFault with rst := [true] }.rstNow = true ∧
    (withHost sFault 1#32 true).cmdWord.isSome = true ∧ (∃ t, step { sFault with rst := [true] } = .next t ∧ t.ctl ≠ .faulted) :=
  ⟨by decide, by decide, by decide, by decide, ⟨_, rfl, by decide⟩⟩
/-- FaultsOnlyOnAcceptedWords. -/
theorem test_witness_faultTaken : (∃ t, step (withHost sBoot 5#32 true) = .next t ∧ t.ctl = .faulted) ∧ sBoot.ctl ≠ .faulted :=
  ⟨⟨_, rfl, rfl⟩, by decide⟩
/-- ArraysWrittenOnlyByTheirWriters, WritersOfRegisters, InterruptEnableWriters: an accepted DETECT, and a read. -/
theorem test_witness_accepts : (withHost sB 5#32 true).ctl = .idle ∧ (withHost sB 5#32 true).accepted = some 5#32 ∧
    (withHost sB 5#32 true).ieUntouched ∧ (∃ t, step (withHost sB 5#32 true) = .next t ∧ t.ctl = .tx) ∧
    (withHost sB 3#32 true).accepted ≠ some 5#32 ∧ ∃ t, step (withHost sB 3#32 true) = .next t :=
  ⟨by decide, by decide, fun _ h => (List.not_mem_nil h).elim, ⟨_, rfl, rfl⟩, by decide, ⟨_, rfl⟩⟩
/-- ArraysWrittenOnlyByTheirWriters: a good and a bad DATA word in LOAD (with `test_witness_inv_load`). -/
theorem test_witness_arrays_load : (withHost (sLoad 2#8 1#8) 0xCD#32 true).rstNow = false ∧
    (∃ t, step (withHost (sLoad 2#8 1#8) 0xCD#32 true) = .next t) ∧
    (withHost (sLoad 2#8 1#8) 0x100#32 true).accepted = some 0x100#32 ∧ dataRsv 0x100#32 ≠ 0#24 ∧
    ∃ t, step (withHost (sLoad 2#8 1#8) 0x100#32 true) = .next t :=
  ⟨by decide, ⟨_, rfl⟩, by decide, by decide, ⟨_, rfl⟩⟩
/-- ArraysWrittenOnlyByTheirWriters: the 8th bit, which completes a byte, and the 7th, which does not (with
`test_witness_inv_rxBit`). -/
theorem test_witness_arrays_rxBit : (sRx .rxBit 7#16 7#16 true false).rstNow = false ∧
    ((sRx .rxBit 7#16 7#16 true false).nbits.toNat + 1) % 8 = 0 ∧
    (∃ t, step (sRx .rxBit 7#16 7#16 true false) = .next t) ∧
    ((sRx .rxBit 6#16 7#16 true false).nbits.toNat + 1) % 8 ≠ 0 ∧
    ∃ t, step (sRx .rxBit 6#16 7#16 true false) = .next t :=
  ⟨by decide, by decide, ⟨_, rfl⟩, by decide, ⟨_, rfl⟩⟩

end Sys2Proof.Tests
end

section
/-! The invariant of every run (10_state.md R52): each write and each tick rule keeps it, every reset state meets it. -/

namespace Sys2Proof.Machine

section

variable {s : State}

/-! ### Writes that stay in STATE -/

theorem BlockInv.after_setTimer (h : BlockInv s) {n : Nat} (hn : n < timerLimit s) : BlockInv (setTimer n s) :=
  have stored : (BitVec.ofNat 16 n).toNat ≤ n := by
    rw [BitVec.toNat_ofNat]
    exact Nat.mod_le n _
  { h with
    line := { h.line with }
    timing := stored.trans_lt hn }

/-- Some tick remains in every state, so TIMER may be cleared. -/
theorem BlockInv.after_clearTimer (h : BlockInv s) : BlockInv (setTimer 0 s) :=
  h.after_setTimer (Nat.zero_lt_of_lt h.timing)

theorem BlockInv.after_setPrev (h : BlockInv s) (p : Bool) : BlockInv { s with prev := p } :=
  { h with line := { h.line with } }

theorem BlockInv.after_recordLine (h : BlockInv s) : BlockInv (recordLine s) :=
  h.after_setPrev s.line

theorem BlockInv.after_release (h : BlockInv s) : BlockInv (release s) :=
  { h with
    line := { h.line with released := fun _ _ => rfl }
    listening := fun _ => rfl }

/-- The line may be driven while the transmitter owns it (40_line_controller.md R106). -/
theorem BlockInv.after_driveLow (h : BlockInv s) (hc : s.ctl = .tx ∨ s.ctl = .txStop) : BlockInv (driveLow s) :=
  { h with
    line := { h.line with released := by rcases hc with hc | hc <;> simp [quietCtl, hc] }
    listening := by rcases hc with hc | hc <;> simp [rxPhase, hc] }

/-! ### Words accepted in IDLE and LOAD -/

/-- The move to a state that uses none of the transaction's registers: a fault, POST_DELAY's end and CLASSIFY. -/
theorem BlockInv.enterQuiet (h : BlockInv s) {c : Ctl} {f : FaultCause} {q : List Word} (hs : quietCtl s.ctl = true)
    (hc : c = .idle ∨ c = .classify ∨ c = .faulted) (hi : c = .classify → s.lineInit = true)
    (hcap : q.length ≤ Config.bufCap) (hq : c ≠ .idle → q = []) (hf : f = .none ↔ c ≠ .faulted) :
    BlockInv { s with ctl := c, faultCause := f, rspq := q } :=
  have inactive : txnPhase c = false ∧ rxPhase c = false ∧ c ≠ .load ∧ c ≠ .tx := by
    rcases hc with rfl | rfl | rfl <;> simp [txnPhase, rxPhase]
  { h with
    line :=
      { h.line with
        masked := by simp [inactive]
        released := fun _ => h.line.released hs
        loading := by simp [inactive] }
    initialised := fun h1 h2 => hi ((hc.resolve_left h1).resolve_right h2)
    listening := by simp [inactive]
    drained := hq
    rspqCap := hcap
    invalidated := by simp [inactive]
    length := by simp [inactive]
    sending := by simp [inactive]
    counting := by simp [inactive]
    timing := by rcases hc with rfl | rfl | rfl <;> exact s.timer.isLt
    cause := hf }

theorem BlockInv.after_raiseFault (h : BlockInv s) {c : FaultCause} {w : Word} (hc : c ≠ .none)
    (hctl : s.ctl = .idle ∨ s.ctl = .load) (hq : s.rspq = []) : BlockInv (raiseFault c w s) :=
  have hs : quietCtl s.ctl = true := by rcases hctl with hctl | hctl <;> rw [hctl] <;> rfl
  have hf := h.enterQuiet (c := .faulted) (f := c) hs (.inr (.inr rfl)) nofun h.rspqCap (fun _ => hq) (by simp [hc])
  { hf with line := { hf.line with } }

/-- The writes of INIT_LINE (40_line_controller.md R100). -/
theorem BlockInv.initLine (h : BlockInv s) (hctl : s.ctl = .idle) :
    BlockInv { s with dir := false, out := false, dbgDir := true, dbgOut := false, lineInit := true } :=
  { h with
    line :=
      { h.line with
        neverHigh := fun _ => rfl
        masked := by simp [txnPhase, hctl]
        released := fun _ _ => rfl }
    initialised := fun _ _ => rfl
    listening := fun _ => rfl }

/-- The writes of EXEC_TXN's header (41_transaction.md R133): LEN is cut to no other value, as TX_CAP is at most 255. -/
theorem BlockInv.execHeader (h : BlockInv s) {len : Nat} (hctl : s.ctl = .idle) (hq : s.rspq = [])
    (hlen : 1 ≤ len) (hcap : len ≤ s.cfg.txCap) (hi : s.lineInit = true) :
    BlockInv { s with txlen := BitVec.ofNat 8 len, loadcnt := 0#8, mode := .execTxn, ctl := .load } :=
  have stored : 0 < (BitVec.ofNat 8 len).toNat ∧ (BitVec.ofNat 8 len).toNat ≤ s.cfg.txCap := by
    have := Config.wf_bounds h.config
    simp only [BitVec.toNat_ofNat]
    omega
  { h with
    line :=
      { h.line with
        masked := by simp [txnPhase]
        released := fun _ => h.line.released (by rw [hctl]; rfl)
        loading := fun _ => ⟨stored.1, hq⟩ }
    initialised := fun _ _ => hi
    listening := by simp [rxPhase]
    drained := fun _ => hq
    invalidated := by simp [txnPhase]
    length := fun _ => stored.2
    sending := by simp
    counting := by simp [txnPhase]
    timing := s.timer.isLt
    cause := by simpa [hctl] using h.cause }

/-- RSPQ may hold anything up to its capacity in IDLE (10_state.md R46). -/
theorem BlockInv.after_setRspq (h : BlockInv s) {q : List Word} (hctl : s.ctl = .idle) (hq : q.length ≤ Config.bufCap) :
    BlockInv { s with rspq := q } :=
  { h with
    line := { h.line with loading := by simp [hctl] }
    drained := by simp [hctl]
    rspqCap := hq }

/-- The writes of DETECT before TXN_START (43_classifier.md R192). -/
theorem BlockInv.detectHeader (h : BlockInv s) {v : Byte} (hctl : s.ctl = .idle) (hcap : 0 < s.cfg.txCap) :
    BlockInv { s with txbuf := s.txbuf.write 0 v, txlen := 1#8, mode := .detect } :=
  { h with
    line := { h.line with loading := by simp [hctl] }
    length := by simp [hctl]
    sending := by simp [hctl]
    timing := by simpa [timerLimit, hctl] using s.timer.isLt
    txbufForm := Memory.write_wf h.txbufForm hcap }

/-- A DATA word's byte stored in LOAD (41_transaction.md R134). -/
theorem BlockInv.storeTxbuf (h : BlockInv s) {a : Nat} {v : Byte} (hctl : s.ctl = .load) (ha : a < s.cfg.txCap) :
    BlockInv { s with txbuf := s.txbuf.write a v } :=
  { h with
    line := { h.line with }
    timing := by simpa [timerLimit, hctl] using s.timer.isLt
    txbufForm := Memory.write_wf h.txbufForm ha }

theorem BlockInv.after_txnStart (h : BlockInv s) (hctl : s.ctl = .idle ∨ s.ctl = .load) (hi : s.lineInit = true)
    (hq : s.rspq = []) (hlen : 1 ≤ s.txlen.toNat) (hcap : s.txlen.toNat ≤ s.cfg.txCap) : BlockInv (txnStart s) :=
  { h with
    line :=
      { neverHigh := h.line.neverHigh
        masked := fun _ => ⟨hi, rfl⟩
        released := by simp [quietCtl]
        validCount := by simp
        invalidCount := fun _ => rfl
        loading := by simp }
    initialised := fun _ _ => hi
    listening := by simp [rxPhase]
    drained := fun _ => hq
    invalidated := fun _ => rfl
    length := fun _ => hcap
    sending := fun _ => hlen
    counting := fun _ => by simp [Config.nbitsMax]
    timing := (phaseLen_bounds h.config .low _).1
    cause := by
      have hnf : s.ctl ≠ .faulted := by rcases hctl with hctl | hctl <;> simp [hctl]
      simpa [hnf] using h.cause }

theorem BlockInv.after_loadAdvance (h : BlockInv s) (hctl : s.ctl = .load) : BlockInv (loadAdvance s) := by
  obtain ⟨hlt, hq⟩ := h.line.loading hctl
  unfold loadAdvance
  split
  · exact h.after_txnStart (.inr hctl) (h.initialised (by simp [hctl]) (by simp [hctl])) hq (Nat.zero_lt_of_lt hlt)
      (h.length (.inl hctl))
  · next hne =>
    have hnext : (BitVec.ofNat 8 (s.loadcnt.toNat + 1)).toNat < s.txlen.toNat := by
      simp only [BitVec.toNat_ofNat]
      omega
    exact { h with line := { h.line with loading := fun _ => ⟨hnext, hq⟩ } }

/-! ### TX and TX_STOP -/

/-- With TIMER clear, TX may go to any half of any bit of a byte below TXLEN (40_line_controller.md R107). -/
theorem BlockInv.nextCell (h : BlockInv s) (hctl : s.ctl = .tx) (ht : s.timer = 0#16) (p : Phase) (b : BitVec 3)
    {x : BitVec 8} (hx : x.toNat < s.txlen.toNat) : BlockInv { s with phase := p, bitidx := b, txidx := x } :=
  { h with
    line := { h.line with }
    sending := fun _ => hx
    timing := by simpa [timerLimit, hctl, ht] using Nat.lt_of_succ_le (phaseLen_bounds h.config p _).1 }

theorem BlockInv.enterTxStop (h : BlockInv s) (hctl : s.ctl = .tx) (ht : s.timer = 0#16) :
    BlockInv { s with ctl := .txStop } :=
  have active : txnPhase s.ctl = true := by rw [hctl]; rfl
  { h with
    line :=
      { h.line with
        masked := fun _ => h.line.masked active
        released := by simp [quietCtl]
        loading := by simp }
    initialised := fun _ _ => (h.line.masked active).1
    listening := by simp [rxPhase]
    drained := fun _ => h.drained (by simp [hctl])
    invalidated := fun _ => h.invalidated active
    length := by simp
    sending := by simp
    counting := fun _ => h.counting active
    timing := by
      have := Config.wf_bounds h.config
      simp only [timerLimit, ht, BitVec.toNat_ofNat]
      omega
    cause := by simpa [hctl] using h.cause }

theorem BlockInv.after_nextBit (h : BlockInv s) (hctl : s.ctl = .tx) (ht : s.timer = 0#16) : BlockInv (nextBit s) := by
  unfold nextBit
  split
  · exact (h.nextCell hctl ht .low _ (h.sending hctl)).after_driveLow (.inl hctl)
  · split
    · next hlast =>
      have hx : (BitVec.ofNat 8 (s.txidx.toNat + 1)).toNat < s.txlen.toNat := by
        simp only [BitVec.toNat_ofNat]
        omega
      exact (h.nextCell hctl ht .low _ hx).after_driveLow (.inl hctl)
    · exact (h.enterTxStop hctl ht).after_driveLow (.inr rfl)

theorem BlockInv.after_txAdvance (h : BlockInv s) (hctl : s.ctl = .tx) : BlockInv (txAdvance s) := by
  unfold txAdvance
  split
  · next hlt => exact h.after_setTimer (by simpa [timerLimit, hctl] using hlt)
  · cases s.phase with
    | low => exact (h.after_clearTimer.nextCell hctl rfl .high _ (h.sending hctl)).after_release
    | high => exact h.after_clearTimer.after_nextBit hctl rfl

/-! ### The receiver -/

/-- From a transaction phase with the line released, the receiver may go to any of its states in which TIMER is below the
limit. -/
theorem BlockInv.enterReceiver (h : BlockInv s) {c : Ctl} (hctl : txnPhase s.ctl = true) (hc : rxPhase c = true)
    (hdir : s.dir = false) (ht : s.timer.toNat < timerLimit { s with ctl := c }) : BlockInv { s with ctl := c } :=
  have hne : c ≠ .idle ∧ c ≠ .load ∧ c ≠ .tx ∧ c ≠ .faulted := by cases c <;> simp_all [rxPhase]
  { h with
    line :=
      { h.line with
        masked := fun _ => h.line.masked hctl
        released := fun _ _ => hdir
        loading := fun hl => absurd hl hne.2.1 }
    initialised := fun _ _ => (h.line.masked hctl).1
    listening := fun _ => hdir
    drained := fun _ => h.drained (by rintro hi; simp [txnPhase, hi] at hctl)
    invalidated := fun _ => h.invalidated hctl
    length := fun hl => hl.elim (absurd · hne.2.1) (absurd · hne.2.2.1)
    sending := fun hl => absurd hl hne.2.2.1
    counting := fun _ => h.counting hctl
    timing := ht
    cause := by
      have hnf : s.ctl ≠ .faulted := by rintro hf; simp [txnPhase, hf] at hctl
      simpa [hnf, hne.2.2.2] using h.cause }

theorem BlockInv.after_txStopTick (h : BlockInv s) (hctl : s.ctl = .txStop) : BlockInv (txStopTick s) := by
  rcases txStopTick_cases s with ⟨hlt, heq⟩ | ⟨-, heq⟩ <;> rw [heq]
  · exact h.after_setTimer (by simpa [timerLimit, hctl] using hlt)
  · have hpos := Config.wf_bounds h.config
    refine (h.after_clearTimer.after_release.after_setPrev false).enterReceiver (c := .rxWait) ?_ rfl rfl ?_
    · simp [hctl, txnPhase]
    · simp [timerLimit]
      omega

/-- The framing check counts at most BUF_CAP bytes (41_transaction.md R141, R143). -/
theorem normalizeRc_rxOutcome_le (n : Nat) : (normalizeRc (rxOutcome n)).toNat ≤ Config.bufCap := by
  unfold rxOutcome
  split
  · next hn =>
    unfold normalizeRc
    split
    · exact Nat.zero_le _
    · simp only [BitVec.toNat_ofNat, Config.bufCap] at hn ⊢
      omega
  · decide

theorem rxPhase_txnPhase {c : Ctl} (h : rxPhase c = true) : txnPhase c = true := by
  cases c <;> simp_all [rxPhase, txnPhase]

theorem BlockInv.after_txnEnd (h : BlockInv s) {rc : Byte} (hctl : rxPhase s.ctl = true)
    (hrc : (normalizeRc rc).toNat ≤ Config.bufCap) : BlockInv (txnEnd rc s) :=
  have active : txnPhase s.ctl = true := rxPhase_txnPhase hctl
  { h with
    line :=
      { neverHigh := h.line.neverHigh
        masked := by simp [txnPhase]
        released := fun _ _ => h.listening hctl
        validCount := fun hv => ⟨of_decide_eq_true hv, hrc⟩
        invalidCount := fun hv => BitVec.eq_of_toNat_eq (by simpa using hv)
        loading := by simp }
    initialised := fun _ _ => (h.line.masked active).1
    listening := by simp [rxPhase]
    drained := fun _ => h.drained (by rintro hi; simp [txnPhase, hi] at active)
    invalidated := by simp [txnPhase]
    length := by simp
    sending := by simp
    counting := by simp [txnPhase]
    timing := Config.tPost_pos h.config
    cause := by
      have hnf : s.ctl ≠ .faulted := by rintro hf; simp [txnPhase, hf] at active
      simpa [hnf] using h.cause }

/-- PACK_BIT where the receive goes on needs room for the bit; where it has ended the count is free. -/
theorem BlockInv.after_packBit (h : BlockInv s) (b : Bool)
    (hn : txnPhase s.ctl = true → s.nbits.toNat + 1 < Config.nbitsMax) : BlockInv (packBit b s) := by
  have hw := packBit_wbuf_wf (b := b) h.wbufForm
  obtain ⟨m, heq⟩ := packBit_frame b s
  rw [heq] at hw ⊢
  exact
    { h with
      line := { h.line with }
      counting := fun hc => (Nat.mod_le _ _).trans_lt (hn hc)
      wbufForm := hw }

/-- TXN_END reads and writes nothing that PACK_BIT does. -/
theorem txnEnd_packBit (rc : Byte) (b : Bool) (s : State) : txnEnd rc (packBit b s) = packBit b (txnEnd rc s) :=
  apply_ite (txnEnd rc) _ _ _

/-- Nor does a change of STATE. -/
theorem withCtl_packBit (c : Ctl) (b : Bool) (s : State) :
    { packBit b s with ctl := c } = packBit b { s with ctl := c } :=
  apply_ite (fun t : State => { t with ctl := c }) _ _ _

/-- A falling edge starts the next bit (41_transaction.md R137, R139). -/
theorem BlockInv.startBit (h : BlockInv s) (hctl : rxPhase s.ctl = true) :
    BlockInv { setTimer 0 (recordLine s) with ctl := .rxBit } := by
  refine h.after_recordLine.after_clearTimer.enterReceiver (rxPhase_txnPhase hctl) rfl (h.listening hctl) ?_
  have := Config.wf_bounds h.config
  simp [timerLimit]
  omega

theorem BlockInv.after_rxWaitTick (h : BlockInv s) (hctl : s.ctl = .rxWait) : BlockInv (rxWaitTick s) := by
  have hrx : rxPhase s.ctl = true := by rw [hctl]; rfl
  rcases rxWaitTick_cases s with ⟨-, heq⟩ | ⟨-, hlt, heq⟩ | ⟨-, -, heq⟩ <;> rw [heq]
  · exact h.startBit hrx
  · exact h.after_recordLine.after_setTimer (by simpa [timerLimit, hctl] using hlt)
  · exact h.after_recordLine.after_txnEnd hrx (by decide)

theorem BlockInv.after_rxGapTick (h : BlockInv s) (hctl : s.ctl = .rxGap) : BlockInv (rxGapTick s) := by
  have hrx : rxPhase s.ctl = true := by rw [hctl]; rfl
  rcases rxGapTick_cases s with ⟨-, heq⟩ | ⟨-, hlt, heq⟩ | ⟨-, -, heq⟩ <;> rw [heq]
  · exact h.startBit hrx
  · exact h.after_recordLine.after_setTimer (by simpa [timerLimit, hctl] using hlt)
  · exact h.after_recordLine.after_txnEnd hrx (normalizeRc_rxOutcome_le _)

theorem BlockInv.after_rxBitTick (h : BlockInv s) (hctl : s.ctl = .rxBit) : BlockInv (rxBitTick s) := by
  have hrx : rxPhase s.ctl = true := by rw [hctl]; rfl
  have hlt : s.timer.toNat < s.cfg.tSample := by simpa [timerLimit, hctl] using h.timing
  have hbits := h.counting (rxPhase_txnPhase hrx)
  have hcfg := Config.wf_bounds h.config
  rcases rxBitTick_cases s with ⟨hne, heq⟩ | ⟨hs, hne, heq⟩ | ⟨hs, -, heq⟩ <;> rw [heq]
  · refine h.after_recordLine.after_setTimer ?_
    simp only [timerLimit, recordLine_ctl, recordLine_cfg, hctl]
    omega
  · have hgap : s.timer.toNat + 1 < s.cfg.tGap := by omega
    have hin : BlockInv { recordLine s with ctl := .rxGap } :=
      h.after_recordLine.enterReceiver (rxPhase_txnPhase hrx) rfl (h.listening hrx) (Nat.lt_of_succ_lt hgap)
    rw [withCtl_packBit]
    exact (hin.after_setTimer hgap).after_packBit s.line fun _ => by
      show s.nbits.toNat + 1 < Config.nbitsMax
      omega
  · rw [txnEnd_packBit]
    exact (h.after_recordLine.after_txnEnd hrx (by decide)).after_packBit s.line nofun

/-! ### POST_DELAY and CLASSIFY -/

/-- The response of a transaction finds RSPQ empty (41_transaction.md R145, 43_classifier.md R194). -/
theorem BlockInv.respondAndIdle (h : BlockInv s) (v : Byte) (hctl : s.ctl = .postDelay ∨ s.ctl = .classify) :
    BlockInv { respond v s with ctl := .idle } := by
  have hne : s.ctl ≠ .idle ∧ s.ctl ≠ .faulted := by rcases hctl with hc | hc <;> simp [hc]
  refine h.enterQuiet ?_ (.inl rfl) nofun ?_ nofun (by simpa [hne] using h.cause)
  · rcases hctl with hc | hc <;> rw [hc] <;> rfl
  · simp [h.drained hne.1, Config.bufCap]

theorem BlockInv.enterClassify (h : BlockInv s) (hctl : s.ctl = .postDelay) : BlockInv { s with ctl := .classify } := by
  have hne : s.ctl ≠ .idle ∧ s.ctl ≠ .faulted := by simp [hctl]
  exact h.enterQuiet (by rw [hctl]; rfl) (.inr (.inl rfl)) (fun _ => h.initialised hne.1 hne.2) h.rspqCap
    (fun _ => h.drained hne.1) (by simpa [hne] using h.cause)

theorem BlockInv.after_postDelayTick (h : BlockInv s) (hctl : s.ctl = .postDelay) : BlockInv (postDelayTick s) := by
  rcases postDelayTick_cases s with ⟨hlt, heq⟩ | ⟨-, -, heq⟩ | ⟨-, -, heq⟩ <;> rw [heq]
  · exact h.after_setTimer (by simpa [timerLimit, hctl] using hlt)
  · exact h.after_clearTimer.respondAndIdle _ (.inl hctl)
  · exact h.after_clearTimer.enterClassify hctl

/-! ### One tick -/

/-- An accepted CMD or DATA word finds RSPQ empty. -/
theorem BlockInv.rspq_of_accepted (h : BlockInv s) {w : Word} (ha : s.accepted = some w) : s.rspq = [] := by
  obtain ⟨-, -, hr | hc⟩ := accepted_ready ha
  · exact ((ready_iff s).mp hr).2
  · exact h.drained (by simp [hc])

theorem BlockInv.after_blockStep (h : BlockInv s) {u : State} (hu : blockStep s = .next u) : BlockInv u := by
  rcases blockStep_effects hu with ⟨-, -, rfl⟩ | ⟨w, c, ha, hctl, hc, rfl⟩ | ⟨-, hctl, rfl⟩ |
    ⟨w, len, ha, hctl, hlen, hcap, hi, rfl⟩ | ⟨w, q, -, hctl, hq, rfl⟩ | ⟨w, ha, hctl, hi, hcap, rfl⟩ |
    ⟨w, -, hctl, hlt, rfl⟩ | ⟨hctl, -, rfl⟩ | ⟨hctl, rfl⟩ | ⟨hctl, rfl⟩ | ⟨hctl, rfl⟩ | ⟨hctl, rfl⟩ | ⟨hctl, rfl⟩ |
    ⟨hctl, rfl⟩
  · exact h
  · exact h.after_raiseFault hc hctl (h.rspq_of_accepted ha)
  · exact h.initLine hctl
  · exact h.execHeader hctl (h.rspq_of_accepted ha) hlen hcap hi
  · exact h.after_setRspq hctl hq
  · exact (h.detectHeader hctl hcap).after_txnStart (.inl hctl) hi (h.rspq_of_accepted ha) le_rfl hcap
  · exact (h.storeTxbuf hctl hlt).after_loadAdvance hctl
  · exact h.after_txAdvance hctl
  · exact h.after_txStopTick hctl
  · exact h.after_rxWaitTick hctl
  · exact h.after_rxBitTick hctl
  · exact h.after_rxGapTick hctl
  · exact h.after_postDelayTick hctl
  · exact h.respondAndIdle _ (.inr hctl)

/-- Where the block's transition ends in a transaction phase, its IE stands (10_state.md R52, R53). -/
theorem ieAfter_of_txnPhase (s : State) {t : State} (h : txnPhase t.ctl = true) : ieAfter s t = t.ie := by
  simp [ieAfter, h]

/-- The host's and the device's moves of a tick: IE is not the host's to write in a transaction phase (10_state.md R53). -/
theorem BlockInv.after_endTick (s : State) {u : State} (h : BlockInv u) : BlockInv (endTick s u) :=
  have popped : (endTick s u).rspq.length ≤ u.rspq.length ∧ (u.rspq = [] → (endTick s u).rspq = []) := by
    rw [endTick_rspq]
    split <;> simp +contextual
  { h with
    line :=
      { h.line with
        masked := fun hu => ⟨(h.line.masked hu).1, (ieAfter_of_txnPhase s (t := u) hu).trans (h.line.masked hu).2⟩
        loading := fun hu => ⟨(h.line.loading hu).1, popped.2 (h.line.loading hu).2⟩ }
    drained := fun hu => popped.2 (h.drained hu)
    rspqCap := popped.1.trans h.rspqCap }

/-- Every reset state meets the invariant, the draws being canonical arrays (10_state.md R50). -/
theorem blockInv_resetBlock (d : ResetDraws) (s : State) (hcfg : s.cfg.wf = true)
    (hw : d.wbuf.wf Config.bufCap = true) (ht : d.txbuf.wf s.cfg.txCap = true) : BlockInv (resetBlock d s) where
  line :=
    { neverHigh := nofun
      masked := nofun
      released := nofun
      validCount := nofun
      invalidCount := fun _ => rfl
      loading := nofun }
  config := hcfg
  initialised := by simp
  listening := nofun
  drained := by simp
  rspqCap := Nat.zero_le _
  invalidated := nofun
  length := by simp
  sending := nofun
  counting := nofun
  timing := by simp [timerLimit]
  cause := by simp
  wbufForm := hw
  txbufForm := ht

theorem BlockInv.after_resetTick (h : BlockInv s) : BlockInv (resetTick s) := by
  obtain ⟨d, hw, ht, heq⟩ := resetTick_draws s
  have hd := blockInv_resetBlock d s h.config hw ht
  rw [heq]
  exact { hd with line := { hd.line with } }

theorem BlockInv.after_step (h : BlockInv s) {t : State} (ht : step s = .next t) : BlockInv t := by
  rcases step_cases ht with ⟨-, rfl⟩ | ⟨-, u, hu, rfl⟩
  · exact h.after_resetTick
  · exact (h.after_blockStep hu).after_endTick s

theorem BlockInv.after_runTicks {n : Nat} {t : State} (h : BlockInv s) (ht : runTicks n s = .next t) : BlockInv t := by
  induction n generalizing s with
  | zero =>
    cases ht
    exact h
  | succ n ih =>
    obtain ⟨u, hu, ht⟩ := andThen_eq_next.mp ht
    exact ih (h.after_step hu) ht

end

/-- State.reset is a reset state: the reset of itself, with the draws it names. -/
theorem resetBlock_reset : resetBlock ⟨false, false, false, false, false, [], []⟩ State.reset = State.reset := rfl

/-- Settles O48: a reset state meets each clause by R50's value or for want of its premise. -/
theorem invariantAtReset : Obligations.InvariantAtReset := by
  refine ⟨?_, blockInv_resetBlock⟩
  rw [← resetBlock_reset]
  exact blockInv_resetBlock _ _ (by decide) rfl rfl

/-- Settles O47: the block's transition keeps each clause rule by rule, and the tick's end keeps them all. -/
theorem invariantKept : Obligations.InvariantKept :=
  fun _ _ h ht => h.after_step ht

/-- Settles O46: the invariant holds at reset and every step keeps it. -/
theorem lineInvariantsHold : Obligations.LineInvariantsHold :=
  ⟨fun d s _ _ hcfg hw ht hrun => ((blockInv_resetBlock d s hcfg hw ht).after_runTicks hrun).line,
    fun _ _ _ h hrun => (h.after_runTicks hrun).line⟩

end Sys2Proof.Machine
end

section
/-! The status port (10_state.md R24): what stands in a field of STATUS. -/

namespace Sys2Proof.Machine

section

section

variable {lo w : Nat} (v : BitVec w)

theorem getLsbD_statusField (h : lo + w ≤ 32) {i : Nat} (hlo : lo ≤ i) (hhi : i < lo + w) :
    (statusField lo w v).getLsbD i = v.getLsbD (i - lo) := by
  have h1 : i < 32 := by omega
  have h2 : ¬ i < lo := by omega
  simp [statusField, h1, h2]

theorem getLsbD_statusField_outside {i : Nat} (h : i < lo ∨ lo + w ≤ i) : (statusField lo w v).getLsbD i = false := by
  rcases h with h | h
  · simp [statusField, h]
  · have : w ≤ i - lo := by omega
    simp [statusField, BitVec.getLsbD_of_ge v _ this]

theorem extractLsb'_statusField (h : lo + w ≤ 32) : (statusField lo w v).extractLsb' lo w = v := by
  apply BitVec.eq_of_getLsbD_eq
  intro i hi
  have hhi : lo + i < lo + w := by omega
  simp [hi, getLsbD_statusField v h (Nat.le_add_right lo i) hhi]

theorem extractLsb'_statusField_outside {lo' w' : Nat} (h : lo' + w' ≤ lo ∨ lo + w ≤ lo') :
    (statusField lo w v).extractLsb' lo' w' = 0#w' := by
  apply BitVec.eq_of_getLsbD_eq
  intro i hi
  have hout : lo' + i < lo ∨ lo + w ≤ lo' + i := by omega
  simp [getLsbD_statusField_outside v hout]

theorem getLsbD_statusField_bit (h : lo < 32) (b : Bool) : (statusField lo 1 (BitVec.ofBool b)).getLsbD lo = b := by
  rw [getLsbD_statusField _ h le_rfl (Nat.lt_succ_self lo), Nat.sub_self, BitVec.getLsbD_ofBool]
  simp

end

variable (s : State)

/-- The fields of one bit, and the reserved bit 7. -/
theorem status_bits :
    s.status.getLsbD 0 = s.busy ∧ s.status.getLsbD 1 = s.lineInit ∧ s.status.getLsbD 2 = s.bufValid ∧
    s.status.getLsbD 3 = s.faultFlag ∧ s.status.getLsbD 6 = s.cfg.forceKb ∧ s.status.getLsbD 7 = false := by
  simp (disch := decide) only [State.status, BitVec.getLsbD_or, getLsbD_statusField_bit, getLsbD_statusField_outside,
    Bool.or_false, Bool.false_or, and_self]

/-- The wider fields, and the reserved bits 24 to 31. -/
theorem status_codes :
    s.status.extractLsb' 4 2 = diagCode s.diag ∧ s.status.extractLsb' 8 4 = causeCode s.faultCause ∧
    s.status.extractLsb' 12 4 = ctlCode s.ctl ∧ s.status.extractLsb' 16 8 = s.rxcount ∧
    s.status.extractLsb' 24 8 = 0#8 := by
  simp (disch := decide) only [State.status, BitVec.extractLsb'_or, extractLsb'_statusField,
    extractLsb'_statusField_outside, BitVec.or_zero, BitVec.zero_or, and_self]

theorem busy_iff : s.busy = true ↔ s.ctl ≠ .idle ∧ s.ctl ≠ .faulted := by
  simp [State.busy]

theorem faultFlag_iff : s.faultFlag = true ↔ s.ctl = .faulted := by
  simp [State.faultFlag]

end

/-- Settles O33: the fields lie apart, so each is read back as it was written, and the codes are the registers' own. -/
theorem statusLayout : Obligations.StatusLayout := by
  intro s
  obtain ⟨hbusy, hinit, hvalid, hfault, hforce, hreserved⟩ := status_bits s
  obtain ⟨hdiag, hcause, hctl, hcount, hhigh⟩ := status_codes s
  refine ⟨?_, hinit, hvalid, ?_, ?_, hforce, hreserved, ?_, ?_, hcount, hhigh, fun d => ?_⟩
  · rw [hbusy, busy_iff]
  · rw [hfault, faultFlag_iff]
  · rw [hdiag]
    cases s.diag <;> rfl
  · rw [hcause]
    cases s.faultCause <;> rfl
  · rw [hctl]
    cases s.ctl <;> rfl
  · obtain ⟨hbusy', -, -, hfault', -⟩ := status_bits (resetBlock d s)
    exact ⟨hbusy', hfault'⟩

end Sys2Proof.Machine
end

section
/-! Reset and the command port (10_state.md R43, R50): what a reset state holds, and which word a tick accepts. -/

namespace Sys2Proof.Machine

section

variable {s u : State}

/-! ### The command port (10_state.md R43) -/

theorem cmdReady_iff (h : s.rstNow = false) : s.cmdReady = true ↔ (s.ctl = .idle ∧ s.rspq = []) ∨ s.ctl = .load := by
  simp [State.cmdReady, h, ready_iff]

theorem accepted_of_cmdWord {w : Word} (h : s.cmdWord = some w) :
    s.accepted = if s.cmdReady then some w else none := by
  rw [State.accepted, h]

theorem cmdAfter_of_ready {w : Word} (hw : s.cmdWord = some w) (hr : s.cmdReady = true) :
    cmdAfter s = s.host.cmd.tail := by
  simp [cmdAfter, accepted_of_cmdWord hw, hr]

theorem cmdAfter_of_not_ready {w : Word} (hw : s.cmdWord = some w) (hr : s.cmdReady = false) :
    cmdAfter s = s.host.cmd := by
  simp [cmdAfter, accepted_of_cmdWord hw, hw, hr]

theorem blockStep_of_accepted {w : Word} (h : s.accepted = some w) : blockStep s = acceptWord w s := by
  simp [blockStep, h]

theorem acceptWord_of_load {w : Word} (h : s.ctl = .load) : acceptWord w s = loadWord w s := by
  simp [acceptWord, h]

theorem acceptWord_of_decode {w : Word} {i : Instr} (h : s.ctl ≠ .load) (hd : decode w = .ok i) :
    acceptWord w s = exec i s := by
  simp [acceptWord, h, hd]

/-- In a tick that begins ready, no response leaves and the host moves on (10_state.md R43, R44). -/
theorem endTick_of_ready {w : Word} (hr : s.rstNow = false) (hs : s.ready = true) (hw : s.cmdWord = some w) :
    endTick s u =
      { u with
        ie := ieAfter s u, rst := s.rst.tail, bus := busAfter s.bus, tick := s.tick + 1
        host := { s.host with cmd := s.host.cmd.tail, ieWrite := s.host.ieWrite.tail } } := by
  obtain ⟨hc, hq⟩ := (ready_iff s).mp hs
  have hcmd := cmdAfter_of_ready hw ((cmdReady_iff hr).mpr (.inl ⟨hc, hq⟩))
  have hv : s.rspValid = false := by simp [State.rspValid, hq]
  simp [endTick, hostAfter, State.pops, hv, hcmd, hc, txnPhase]

/-- Every command goes through CHECK_CMD (60_exceptions.md R213). -/
theorem exec_eq_performCmd (i : Instr) (s : State) : ∃ body, exec i s = performCmd i s body := by
  cases i <;> exact ⟨_, by delta exec; rfl⟩

end

/-- Settles O19: every command is performed through `performCmd`, which turns it away. -/
theorem notReadyTurnsAway : Obligations.NotReadyTurnsAway := by
  intro i s h
  have hr : s.ready = false := by
    rw [Bool.eq_false_iff]
    intro hs
    obtain ⟨hc, hq⟩ := (ready_iff s).mp hs
    exact h.elim (absurd hc) (absurd hq)
  obtain ⟨body, hbody⟩ := exec_eq_performCmd i s
  rw [hbody]
  simp [performCmd, hr]

/-- Settles O22: the ready block accepts the word, and RSPQ is empty, so the tick's end pops nothing. -/
theorem stepRunsDecoded : Obligations.StepRunsDecoded := by
  intro s w i hr hs hw hd
  obtain ⟨hc, hq⟩ := (ready_iff s).mp hs
  have hready := (cmdReady_iff hr).mpr (.inl ⟨hc, hq⟩)
  have ha : s.accepted = some w := by rw [accepted_of_cmdWord hw, if_pos hready]
  rw [step_of_not_rst hr, blockStep_of_accepted ha, acceptWord_of_decode (by simp [hc]) hd]
  congr
  funext u
  exact endTick_of_ready hr hs hw

/-- Settles O23: the host's script moves on exactly when cmd_ready is 1, and in LOAD the transition is LOAD_WORD. -/
theorem commandHandshake : Obligations.CommandHandshake := by
  intro s t w hr hw ht
  have hready := cmdReady_iff hr
  rw [step_of_not_rst hr] at ht
  obtain ⟨u, hu, rfl⟩ := onNext_eq_next.mp ht
  refine ⟨hready, accepted_of_cmdWord hw, fun h => cmdAfter_of_ready hw (hready.mpr h),
    fun h => cmdAfter_of_not_ready hw (Bool.eq_false_iff.mpr (mt hready.mp h)), fun hl => ?_⟩
  have ha : s.accepted = some w := by rw [accepted_of_cmdWord hw, if_pos (hready.mpr (.inr hl))]
  rw [blockStep_of_accepted ha, acceptWord_of_load hl] at hu
  exact ⟨u, hu, rfl, rfl, rfl⟩

/-- Settles O6: each register reads the value that R50 names, by the reset rule. -/
theorem resetValues : Obligations.ResetValues := by
  intro d s
  simp [ctlCode, modeCode, diagCode, causeCode]

/-- Settles O7: the draws are those that State.reset names. -/
theorem resetIsAResetState : Obligations.ResetIsAResetState :=
  ⟨⟨_, resetBlock_reset⟩, by decide, by decide, by decide⟩

end Sys2Proof.Machine
end

section
/-! The writers of each register (10_state.md R49) and the order of the responses (R44), from one account of what the block's
transition can write. -/

namespace Sys2Proof.Machine

section

variable {s u : State}

/-- What the block's transition from `s` can write in a tick without reset, by its cause; the values it writes are left free
where no claim about the writers needs them (41_transaction.md R152). -/
inductive BlockEffect (s : State) : State → Prop
  /-- Nothing happens: no word comes in IDLE, in LOAD or in FAULTED. -/
  | stay (ha : s.accepted = none) : BlockEffect s s
  /-- An accepted word faults. -/
  | fault {w : Word} {c : FaultCause} (ha : s.accepted = some w) (hctl : s.ctl = .idle ∨ s.ctl = .load) :
      BlockEffect s (raiseFault c w s)
  | initLine (ha : s.accepted = some 1#32) (hctl : s.ctl = .idle) :
      BlockEffect s { s with dir := false, out := false, dbgDir := true, dbgOut := false, lineInit := true }
  /-- EXEC_TXN's header. -/
  | header {w : Word} {l : BitVec 8} (ha : s.accepted = some w) (hctl : s.ctl = .idle) :
      BlockEffect s { s with txlen := l, loadcnt := 0#8, mode := .execTxn, ctl := .load }
  /-- READ_BYTE and READ_BYTES respond, each of another length. -/
  | read {w : Word} (new : List Word) (ha : s.accepted = some w) (hctl : s.ctl = .idle)
      (hop : new ≠ [] → fieldOp w = 3#4 ∨ fieldOp w = 4#4) : BlockEffect s { s with rspq := s.rspq ++ new }
  /-- A DATA word that is not the last. -/
  | store {w : Word} {m : Memory} {n : BitVec 8} (ha : s.accepted = some w) (hctl : s.ctl = .load) :
      BlockEffect s { s with txbuf := m, loadcnt := n }
  /-- TXN_START, by DETECT or by the last DATA word. -/
  | start {w : Word} {m : Memory} {l : BitVec 8} {md : TxnMode} (ha : s.accepted = some w)
      (hctl : s.ctl = .idle ∨ s.ctl = .load) (hload : s.ctl = .load → l = s.txlen ∧ md = s.mode) :
      BlockEffect s (txnStart { s with txbuf := m, txlen := l, mode := md })
  | tx {c : Ctl} {p : Phase} {b : BitVec 3} {x : BitVec 8} {d : Bool} {tm : BitVec 16} (hctl : s.ctl = .tx) :
      BlockEffect s { s with ctl := c, phase := p, bitidx := b, txidx := x, dir := d, timer := tm }
  | txStop {c : Ctl} {d p : Bool} {tm : BitVec 16} (hctl : s.ctl = .txStop) :
      BlockEffect s { s with ctl := c, dir := d, prev := p, timer := tm }
  /-- The receiver listens on. -/
  | receive {c : Ctl} {p : Bool} {tm n : BitVec 16} {sh : Byte} {m : Memory} (hctl : rxPhase s.ctl = true)
      (hbit : s.ctl ≠ .rxBit → n = s.nbits ∧ sh = s.shift) :
      BlockEffect s { s with ctl := c, prev := p, timer := tm, nbits := n, shift := sh, wbuf := m }
  /-- TXN_END. -/
  | receiveEnd {rc : Byte} {p : Bool} {n : BitVec 16} {sh : Byte} {m : Memory} (hctl : rxPhase s.ctl = true)
      (hbit : s.ctl ≠ .rxBit → n = s.nbits ∧ sh = s.shift) :
      BlockEffect s (txnEnd rc { s with prev := p, nbits := n, shift := sh, wbuf := m })
  | postDelay {c : Ctl} {tm : BitVec 16} (new : List Word) (hctl : s.ctl = .postDelay)
      (hc : new ≠ [] → c = .idle) : BlockEffect s { s with timer := tm, rspq := s.rspq ++ new, ctl := c }
  | classify (new : List Word) (hctl : s.ctl = .classify) :
      BlockEffect s { s with rspq := s.rspq ++ new, ctl := .idle }

/-! ### Every transition has one of the effects -/

theorem exec_rspq_of_not_read {w : Word} {i : Instr} (hd : decode w = .ok i) (h3 : fieldOp w ≠ 3#4)
    (h4 : fieldOp w ≠ 4#4) (h : exec i s = .next u) : u.rspq = s.rspq := by
  rcases decode_ok hd with ⟨rfl, -⟩ | ⟨rfl, -⟩ | ⟨-, hop, -⟩ | ⟨-, hop, -⟩ | ⟨rfl, -⟩
  · rcases exec_initLine_next h with ⟨-, rfl⟩ | ⟨-, rfl⟩ <;> rfl
  · rcases exec_execTxn_next h with ⟨-, rfl⟩ | ⟨-, c, -, rfl⟩ | ⟨-, -, rfl⟩ <;> rfl
  · exact absurd hop h3
  · exact absurd hop h4
  · rcases exec_detect_next h with ⟨-, rfl⟩ | ⟨-, -, rfl⟩ | ⟨-, -, -, rfl⟩ <;> rfl

/-- Of the words accepted in IDLE only the reads respond in the same tick. -/
theorem blockStep_rspq_of_not_read {w : Word} (ha : s.accepted = some w) (hctl : s.ctl = .idle) (h3 : fieldOp w ≠ 3#4)
    (h4 : fieldOp w ≠ 4#4) (h : blockStep s = .next u) : u.rspq = s.rspq := by
  rw [blockStep_of_accepted ha] at h
  cases hd : decode w with
  | ok i =>
    rw [acceptWord_of_decode (by simp [hctl]) hd] at h
    exact exec_rspq_of_not_read hd h3 h4 h
  | error e =>
    simp only [acceptWord, hctl, hd, reduceCtorEq, if_false, Host.Outcome.next.injEq] at h
    rw [← h]
    rfl

theorem loadAdvance_effect {w : Word} (ha : s.accepted = some w) (hctl : s.ctl = .load) (m : Memory) :
    BlockEffect s (loadAdvance { s with txbuf := m }) := by
  unfold loadAdvance
  split
  · exact .start ha (.inr hctl) fun _ => ⟨rfl, rfl⟩
  · exact .store ha hctl

theorem txAdvance_effect (hctl : s.ctl = .tx) : BlockEffect s (txAdvance s) := by
  obtain ⟨c, p, b, x, d, tm, heq⟩ := txAdvance_frame s
  rw [heq]
  exact .tx hctl

theorem txStopTick_effect (hctl : s.ctl = .txStop) : BlockEffect s (txStopTick s) := by
  rcases txStopTick_cases s with ⟨-, heq⟩ | ⟨-, heq⟩ <;> rw [heq]
  · exact .txStop hctl
  · exact .txStop hctl

theorem rxWaitTick_effect (hctl : s.ctl = .rxWait) : BlockEffect s (rxWaitTick s) := by
  have hrx : rxPhase s.ctl = true := by rw [hctl]; rfl
  rcases rxWaitTick_cases s with ⟨-, heq⟩ | ⟨-, -, heq⟩ | ⟨-, -, heq⟩ <;> rw [heq]
  · exact .receive hrx fun _ => ⟨rfl, rfl⟩
  · exact .receive hrx fun _ => ⟨rfl, rfl⟩
  · exact .receiveEnd hrx fun _ => ⟨rfl, rfl⟩

theorem rxGapTick_effect (hctl : s.ctl = .rxGap) : BlockEffect s (rxGapTick s) := by
  have hrx : rxPhase s.ctl = true := by rw [hctl]; rfl
  rcases rxGapTick_cases s with ⟨-, heq⟩ | ⟨-, -, heq⟩ | ⟨-, -, heq⟩ <;> rw [heq]
  · exact .receive hrx fun _ => ⟨rfl, rfl⟩
  · exact .receive hrx fun _ => ⟨rfl, rfl⟩
  · exact .receiveEnd hrx fun _ => ⟨rfl, rfl⟩

theorem rxBitTick_effect (hctl : s.ctl = .rxBit) : BlockEffect s (rxBitTick s) := by
  have hrx : rxPhase s.ctl = true := by rw [hctl]; rfl
  obtain ⟨m, hpack⟩ := packBit_frame s.line (setTimer (s.timer.toNat + 1) (recordLine s))
  rcases rxBitTick_cases s with ⟨-, heq⟩ | ⟨-, -, heq⟩ | ⟨-, -, heq⟩ <;> rw [heq]
  · exact .receive hrx (absurd hctl)
  · rw [hpack]
    exact .receive hrx (absurd hctl)
  · rw [hpack]
    exact .receiveEnd hrx (absurd hctl)

theorem postDelayTick_effect (hctl : s.ctl = .postDelay) : BlockEffect s (postDelayTick s) := by
  have silent : ∀ {c tm}, BlockEffect s { s with timer := tm, ctl := c } := fun {c tm} => by
    simpa using BlockEffect.postDelay (c := c) (tm := tm) [] hctl (absurd rfl)
  rcases postDelayTick_cases s with ⟨-, heq⟩ | ⟨-, -, heq⟩ | ⟨-, -, heq⟩ <;> rw [heq]
  · exact silent
  · exact .postDelay _ hctl fun _ => rfl
  · exact silent

theorem blockStep_effect (h : blockStep s = .next u) : BlockEffect s u := by
  rcases blockStep_effects h with ⟨ha, -, rfl⟩ | ⟨w, c, ha, hctl, -, rfl⟩ | ⟨ha, hctl, rfl⟩ |
    ⟨w, len, ha, hctl, -, -, -, rfl⟩ | ⟨w, q, ha, hctl, -, hu⟩ | ⟨w, ha, hctl, -, -, rfl⟩ |
    ⟨w, ha, hctl, -, rfl⟩ | ⟨hctl, -, rfl⟩ | ⟨hctl, rfl⟩ | ⟨hctl, rfl⟩ | ⟨hctl, rfl⟩ | ⟨hctl, rfl⟩ | ⟨hctl, rfl⟩ |
    ⟨hctl, rfl⟩
  · exact .stay ha
  · exact .fault ha hctl
  · exact .initLine ha hctl
  · exact .header ha hctl
  · have hq : s.rspq = [] := by
      obtain ⟨-, -, hr | hl⟩ := accepted_ready ha
      · exact ((ready_iff s).mp hr).2
      · simp [hctl] at hl
    have hop : q ≠ [] → fieldOp w = 3#4 ∨ fieldOp w = 4#4 := fun hne => by
      by_contra hno
      obtain ⟨h3, h4⟩ := not_or.mp hno
      exact hne (by simpa [hu, hq] using blockStep_rspq_of_not_read ha hctl h3 h4 h)
    have hread := BlockEffect.read q ha hctl hop
    rwa [hq, List.nil_append, ← hu] at hread
  · exact .start ha (.inl hctl) fun hl => by simp [hctl] at hl
  · exact loadAdvance_effect ha hctl _
  · exact txAdvance_effect hctl
  · exact txStopTick_effect hctl
  · exact rxWaitTick_effect hctl
  · exact rxBitTick_effect hctl
  · exact rxGapTick_effect hctl
  · exact postDelayTick_effect hctl
  · exact .classify _ hctl

/-! ### Who writes a register: the effects that do are named, the premises rule them out -/

theorem BlockEffect.header_registers (h : BlockEffect s u) (hn : s.accepted = none) :
    u.txlen = s.txlen ∧ u.loadcnt = s.loadcnt ∧ u.mode = s.mode := by
  cases h with
  | header ha | store ha | start ha => simp [hn] at ha
  | _ => exact ⟨rfl, rfl, rfl⟩

theorem BlockEffect.header_registers_load (h : BlockEffect s u) (hl : s.ctl = .load) :
    u.txlen = s.txlen ∧ u.mode = s.mode := by
  cases h with
  | header _ hctl => simp [hl] at hctl
  | start _ _ hload => exact hload hl
  | _ => exact ⟨rfl, rfl⟩

theorem BlockEffect.pins (h : BlockEffect s u) (hn : s.accepted ≠ some 1#32 ∨ s.ctl ≠ .idle) :
    u.lineInit = s.lineInit ∧ u.out = s.out ∧ u.dbgDir = s.dbgDir ∧ u.dbgOut = s.dbgOut ∧
      (s.ctl ≠ .tx → s.ctl ≠ .txStop → u.ctl ≠ .tx → u.dir = s.dir) := by
  cases h with
  | initLine ha hctl => exact absurd hn (by simp [ha, hctl])
  | start => exact ⟨rfl, rfl, rfl, rfl, fun _ _ hne => absurd rfl hne⟩
  | tx hctl => exact ⟨rfl, rfl, rfl, rfl, fun hne => absurd hctl hne⟩
  | txStop hctl => exact ⟨rfl, rfl, rfl, rfl, fun _ hne => absurd hctl hne⟩
  | _ => exact ⟨rfl, rfl, rfl, rfl, fun _ _ _ => rfl⟩

theorem ne_postDelay_of_rxPhase {c : Ctl} (h : rxPhase c = true) : c ≠ .postDelay := by
  rintro rfl
  simp [rxPhase] at h

/-- TXN_START and TXN_END change STATE. -/
theorem BlockEffect.buffer_count (h : BlockEffect s u)
    (hn : s.ctl = u.ctl ∨ (u.ctl ≠ .tx ∧ u.ctl ≠ .postDelay)) : u.bufValid = s.bufValid ∧ u.rxcount = s.rxcount := by
  cases h with
  | start _ hctl => rcases hctl with hctl | hctl <;> simp [hctl] at hn
  | receiveEnd hctl => simp [ne_postDelay_of_rxPhase hctl] at hn
  | _ => exact ⟨rfl, rfl⟩

theorem BlockEffect.diag (h : BlockEffect s u) (hn : s.ctl = u.ctl ∨ u.ctl ≠ .postDelay) : u.diag = s.diag := by
  cases h with
  | receiveEnd hctl => simp [ne_postDelay_of_rxPhase hctl] at hn
  | _ => rfl

theorem BlockEffect.savedIe (h : BlockEffect s u) (hn : s.ctl = u.ctl ∨ u.ctl ≠ .tx) : u.savedIe = s.savedIe := by
  cases h with
  | start _ hctl => rcases hctl with hctl | hctl <;> simp [hctl] at hn
  | _ => rfl

theorem BlockEffect.fault_registers (h : BlockEffect s u) (hn : s.ctl = .faulted ∨ u.ctl ≠ .faulted) :
    u.faultCause = s.faultCause ∧ u.faultInfo = s.faultInfo := by
  cases h with
  | fault _ hctl => rcases hctl with hctl | hctl <;> simp [hctl] at hn
  | _ => exact ⟨rfl, rfl⟩

theorem BlockEffect.bit_position (h : BlockEffect s u) (hs : s.ctl ≠ .tx) (hu : u.ctl ≠ .tx) :
    u.txidx = s.txidx ∧ u.bitidx = s.bitidx ∧ u.phase = s.phase := by
  cases h with
  | start => exact absurd rfl hu
  | tx hctl => exact absurd hctl hs
  | _ => exact ⟨rfl, rfl, rfl⟩

theorem BlockEffect.bit_count (h : BlockEffect s u) (hs : s.ctl ≠ .rxBit) (hu : u.ctl ≠ .tx) :
    u.nbits = s.nbits ∧ u.shift = s.shift := by
  cases h with
  | start => exact absurd rfl hu
  | receive _ hbit | receiveEnd _ hbit => exact hbit hs
  | _ => exact ⟨rfl, rfl⟩

theorem BlockEffect.prev (h : BlockEffect s u) (hrx : rxPhase s.ctl = false) (hs : s.ctl ≠ .txStop) :
    u.prev = s.prev := by
  cases h with
  | txStop hctl => exact absurd hctl hs
  | receive hctl | receiveEnd hctl => simp [hrx] at hctl
  | _ => rfl

theorem BlockEffect.timer (h : BlockEffect s u)
    (hs : s.ctl = .idle ∨ s.ctl = .load ∨ s.ctl = .classify ∨ s.ctl = .faulted) (hu : u.ctl ≠ .tx) :
    u.timer = s.timer := by
  cases h with
  | start => exact absurd rfl hu
  | tx hctl | txStop hctl | postDelay _ hctl => simp [hctl] at hs
  | receive hctl | receiveEnd hctl => rcases hs with hs | hs | hs | hs <;> simp [hs, rxPhase] at hctl
  | _ => rfl

theorem BlockEffect.cfg (h : BlockEffect s u) : u.cfg = s.cfg := by
  cases h <;> rfl

/-- Responses are only appended. -/
theorem BlockEffect.rspq_append (h : BlockEffect s u) : ∃ new, u.rspq = s.rspq ++ new := by
  cases h with
  | read new | postDelay new | classify new => exact ⟨new, rfl⟩
  | _ => exact ⟨[], (List.append_nil _).symm⟩

theorem BlockEffect.rspq (h : BlockEffect s u)
    (hread : ∀ w, s.accepted = some w → s.ctl = .load ∨ (fieldOp w ≠ 3#4 ∧ fieldOp w ≠ 4#4))
    (hpost : s.ctl = .postDelay → u.ctl ≠ .idle) (hclass : s.ctl ≠ .classify) : u.rspq = s.rspq := by
  have silent : ∀ {new : List Word}, ¬ new ≠ [] → s.rspq ++ new = s.rspq := fun hnew => by simpa using hnew
  cases h with
  | read new ha hctl hop =>
    obtain ⟨h3, h4⟩ := (hread _ ha).resolve_left (by simp [hctl])
    exact silent fun hne => (hop hne).elim h3 h4
  | postDelay new hctl hc => exact silent fun hne => hpost hctl (hc hne)
  | classify _ hctl => exact absurd hctl hclass
  | _ => rfl

end

/-- A response popped is the head of RSPQ at the tick's start (10_state.md R44). -/
theorem pops_iff {s : State} (h : s.rstNow = false) : s.pops = true ↔ s.rspq ≠ [] ∧ s.rspReady = true := by
  simp [State.pops, State.rspValid, h]

/-- What the host has received and RSPQ, one after the other, change only by the block's own responses. -/
theorem received_append_rspq {s u : State} {new : List Word} (h : s.rstNow = false) (hu : u.rspq = s.rspq ++ new) :
    (endTick s u).host.received ++ (endTick s u).rspq = s.host.received ++ s.rspq ++ new := by
  cases hp : s.pops with
  | false => simp [hostAfter, hp, hu]
  | true =>
    obtain ⟨hne, -⟩ := (pops_iff h).mp hp
    obtain ⟨v, q, hq⟩ := List.exists_cons_of_ne_nil hne
    simp [hostAfter, hp, hu, hq]

/-- Settles O24: the block only appends to RSPQ, and the tick's end moves its head to the host where the host is ready. -/
theorem responsesInOrder : Obligations.ResponsesInOrder := by
  intro s t hr ht
  rw [step_of_not_rst hr] at ht
  obtain ⟨u, hu, rfl⟩ := onNext_eq_next.mp ht
  obtain ⟨new, hnew⟩ := (blockStep_effect hu).rspq_append
  have hvalid : s.rspValid = true ↔ s.rspq ≠ [] := by simp [State.rspValid, hr]
  refine ⟨hvalid, ?_, ⟨new, received_append_rspq hr hnew⟩, fun v q hq => ?_, fun hq => ?_⟩
  · cases hq : s.rspq <;> simp [State.rspWord, hvalid, hq]
  · simp [hostAfter, pops_iff hr, hq]
  · simp [hostAfter, pops_iff hr, hq]

/-- Settles O54: the transition is one of the effects, and of these registers the tick's end writes RSPQ alone. -/
theorem writersOfRegisters : Obligations.WritersOfRegisters := by
  intro s t hr ht
  rw [step_of_not_rst hr] at ht
  obtain ⟨u, hu, rfl⟩ := onNext_eq_next.mp ht
  have he := blockStep_effect hu
  refine ⟨he.header_registers, he.header_registers_load, he.pins, he.buffer_count, he.diag, he.savedIe,
    he.fault_registers, he.bit_position, he.bit_count, he.prev, he.timer, fun hread hpost hclass => ?_, he.cfg⟩
  rw [endTick_rspq, he.rspq hread hpost hclass]

end Sys2Proof.Machine
end

section
/-! The writers of the two arrays (20_memory.md R66, R67): PACK_BIT alone writes WBUF, an accepted DATA word or DETECT alone
TXBUF, one byte each. -/

namespace Sys2Proof.Machine

section

variable {s u : State}

/-- A write leaves every other byte of a canonical array. -/
theorem Memory.read_write_of_ne {cap a b : Nat} {m : Memory} {v : Byte} (hm : m.wf cap = true) (h : b ≠ a) :
    (m.write a v).read b = m.read b := by
  rw [Memory.read_write hm, if_neg h]

/-! ### WBUF -/

/-- The RX_BIT tick that samples the last bit of a byte inside the buffer (41_transaction.md R138, 42_buffer.md
R170). -/
def SamplesLastBit (s : State) : Prop :=
  s.ctl = .rxBit ∧ s.timer.toNat + 1 = s.cfg.tSample ∧ (s.nbits.toNat + 1) % 8 = 0 ∧
    (s.nbits.toNat + 1) / 8 ≤ Config.bufCap

theorem packBit_wbuf (b : Bool) (s : State) : (packBit b s).wbuf =
    if (s.nbits.toNat + 1) % 8 = 0 ∧ (s.nbits.toNat + 1) / 8 ≤ Config.bufCap then
      s.wbuf.write ((s.nbits.toNat + 1) / 8 - 1) (shiftIn s.shift b)
    else s.wbuf := by
  unfold packBit
  split <;> rfl

theorem rxWaitTick_wbuf (s : State) : (rxWaitTick s).wbuf = s.wbuf := by
  rcases rxWaitTick_cases s with ⟨-, heq⟩ | ⟨-, -, heq⟩ | ⟨-, -, heq⟩ <;> rw [heq] <;> rfl

theorem rxGapTick_wbuf (s : State) : (rxGapTick s).wbuf = s.wbuf := by
  rcases rxGapTick_cases s with ⟨-, heq⟩ | ⟨-, -, heq⟩ | ⟨-, -, heq⟩ <;> rw [heq] <;> rfl

/-- RX_BIT_TICK leaves WBUF to PACK_BIT, which runs in the tick of the sample. -/
theorem rxBitTick_wbuf (s : State) : (rxBitTick s).wbuf =
    if s.timer.toNat + 1 = s.cfg.tSample then (packBit s.line s).wbuf else s.wbuf := by
  have hpack : (packBit s.line (setTimer (s.timer.toNat + 1) (recordLine s))).wbuf = (packBit s.line s).wbuf :=
    (packBit_wbuf _ _).trans (packBit_wbuf _ s).symm
  rcases rxBitTick_cases s with ⟨hne, heq⟩ | ⟨hs, -, heq⟩ | ⟨hs, -, heq⟩ <;> rw [heq]
  · exact (if_neg hne).symm
  · exact hpack.trans (if_pos hs).symm
  · exact hpack.trans (if_pos hs).symm

/-- Only the receiver writes WBUF. -/
theorem BlockEffect.wbuf (h : BlockEffect s u) (hrx : rxPhase s.ctl = false) : u.wbuf = s.wbuf := by
  cases h with
  | receive hctl | receiveEnd hctl => simp [hrx] at hctl
  | _ => rfl

theorem rxPhase_iff {c : Ctl} : rxPhase c = true ↔ c = .rxWait ∨ c = .rxBit ∨ c = .rxGap := by
  cases c <;> simp [rxPhase]

/-- The receiver takes no word (10_state.md R43). -/
theorem blockStep_of_rxPhase (h : rxPhase s.ctl = true) : blockStep s = blockTick s := by
  have ha : s.accepted = none :=
    accepted_none_of_ctl (by rintro hi; simp [rxPhase, hi] at h) (by rintro hl; simp [rxPhase, hl] at h)
  simp [blockStep, ha]

/-- WBUF changes only where the last bit of a byte is sampled, and there by that byte. -/
theorem blockStep_wbuf (h : blockStep s = .next u) :
    u.wbuf = s.wbuf ∨ (SamplesLastBit s ∧
      u.wbuf = s.wbuf.write ((s.nbits.toNat + 1) / 8 - 1) (shiftIn s.shift s.line)) := by
  cases hrx : rxPhase s.ctl with
  | false => exact .inl ((blockStep_effect h).wbuf hrx)
  | true =>
    rw [blockStep_of_rxPhase hrx] at h
    rcases rxPhase_iff.mp hrx with hctl | hctl | hctl <;> simp only [blockTick, hctl] at h <;> cases h
    · exact .inl (rxWaitTick_wbuf s)
    · rw [rxBitTick_wbuf, packBit_wbuf]
      split
      · next hs =>
        split
        · next hbyte => exact .inr ⟨⟨hctl, hs, hbyte⟩, rfl⟩
        · exact .inl rfl
      · exact .inl rfl
    · exact .inl (rxGapTick_wbuf s)

/-! ### TXBUF -/

theorem loadAdvance_txbuf (s : State) : (loadAdvance s).txbuf = s.txbuf := by
  unfold loadAdvance
  split <;> rfl

theorem loadWord_txbuf {w : Word} (h : loadWord w s = .next u) :
    u.txbuf = s.txbuf ∨ (dataRsv w = 0#24 ∧ u.txbuf = s.txbuf.write s.loadcnt.toNat (dataByte w)) := by
  rcases loadWord_cases h with ⟨-, rfl⟩ | ⟨hd, -, rfl⟩
  · exact .inl rfl
  · exact .inr ⟨hd, loadAdvance_txbuf _⟩

/-- Of the commands only DETECT writes TXBUF, after INIT_LINE. -/
theorem exec_txbuf {i : Instr} (h : exec i s = .next u) :
    u.txbuf = s.txbuf ∨ (i = .detect ∧ s.lineInit = true ∧ u.txbuf = s.txbuf.write 0 s.cfg.idCmd) := by
  cases i with
  | initLine => rcases exec_initLine_next h with ⟨-, rfl⟩ | ⟨-, rfl⟩ <;> exact .inl rfl
  | execTxn => rcases exec_execTxn_next h with ⟨-, rfl⟩ | ⟨-, -, -, rfl⟩ | ⟨-, -, rfl⟩ <;> exact .inl rfl
  | readByte => rcases exec_readByte_next h with ⟨-, rfl⟩ | ⟨-, -, -, rfl⟩ | ⟨-, -, rfl⟩ <;> exact .inl rfl
  | readBytes =>
    rcases exec_readBytes_next h with ⟨-, rfl⟩ | ⟨-, -, -, rfl⟩ | ⟨-, -, rfl⟩
    · exact .inl rfl
    · exact .inl rfl
    · exact .inl (by rw [respondAll_eq])
  | detect =>
    rcases exec_detect_next h with ⟨-, rfl⟩ | ⟨-, -, rfl⟩ | ⟨-, hi, -, rfl⟩
    · exact .inl rfl
    · exact .inl rfl
    · exact .inr ⟨rfl, hi, rfl⟩

/-- Only an accepted word writes TXBUF. -/
theorem BlockEffect.txbuf (h : BlockEffect s u) (hn : s.accepted = none) : u.txbuf = s.txbuf := by
  cases h with
  | store ha | start ha => simp [hn] at ha
  | _ => rfl

/-- TXBUF changes only where a good DATA word is accepted, at LOADCNT, or a DETECT after INIT_LINE, at byte 0. -/
theorem blockStep_txbuf (h : blockStep s = .next u) :
    u.txbuf = s.txbuf ∨
    (∃ w, s.ctl = .load ∧ s.accepted = some w ∧ dataRsv w = 0#24 ∧
      u.txbuf = s.txbuf.write s.loadcnt.toNat (dataByte w)) ∨
    (s.ctl = .idle ∧ s.accepted = some 5#32 ∧ s.lineInit = true ∧ u.txbuf = s.txbuf.write 0 s.cfg.idCmd) := by
  cases ha : s.accepted with
  | none => exact .inl ((blockStep_effect h).txbuf ha)
  | some w =>
    rw [blockStep_of_accepted ha] at h
    obtain ⟨-, -, hready⟩ := accepted_ready ha
    by_cases hl : s.ctl = .load
    · rw [acceptWord_of_load hl] at h
      exact (loadWord_txbuf h).imp_right fun hw => .inl ⟨w, hl, rfl, hw⟩
    · have hi := ((ready_iff s).mp (hready.resolve_right hl)).1
      cases hd : decode w with
      | error e =>
        simp only [acceptWord, hl, hd, if_false, Host.Outcome.next.injEq] at h
        exact .inl (h ▸ rfl)
      | ok i =>
        rw [acceptWord_of_decode hl hd] at h
        refine (exec_txbuf h).imp_right fun ⟨hdet, hw⟩ => .inr ⟨hi, ?_, hw⟩
        rw [← encode_of_decode hd, hdet]
        decide

end

/-- Settles O53: each array keeps its bytes or is written at one byte in its writer's circumstances, which the premise of each
clause rules out; the tick's end writes neither. -/
theorem arraysWrittenOnlyByTheirWriters : Obligations.ArraysWrittenOnlyByTheirWriters := by
  intro s t hinv hr ht
  rw [step_of_not_rst hr] at ht
  obtain ⟨u, hu, rfl⟩ := onNext_eq_next.mp ht
  simp only [State.wbufByte, State.txbufByte, endTick_wbuf, endTick_txbuf]
  refine ⟨?_, ?_, ?_⟩
  · rcases blockStep_wbuf hu with hw | ⟨⟨hctl, hs, hbyte, hcap⟩, -⟩
    · exact fun _ _ => by rw [hw]
    · exact fun hn => absurd hn (by simp [hctl, hs, hbyte, hcap])
  · rcases blockStep_wbuf hu with hw | ⟨-, hw⟩ <;> rw [hw]
    · exact fun _ _ => rfl
    · exact fun _ => Memory.read_write_of_ne hinv.wbufForm
  · rcases blockStep_txbuf hu with hw | ⟨w, hl, ha, hgood, hw⟩ | ⟨hi, ha, hinit, hw⟩ <;> rw [hw]
    · exact ⟨fun _ _ => rfl, fun _ _ _ => rfl, fun _ _ _ _ _ => rfl, fun _ _ _ => rfl, fun _ _ _ => rfl⟩
    · refine ⟨by simp [ha], fun _ _ => Memory.read_write_of_ne hinv.txbufForm, fun v _ hv hbad => ?_, by simp [hl],
        by simp [hl]⟩
      cases ha.symm.trans hv
      exact absurd hgood hbad
    · exact ⟨by simp [ha], by simp [hi], by simp [hi], by simp [ha, hinit],
        fun _ _ => Memory.read_write_of_ne hinv.txbufForm⟩

end Sys2Proof.Machine
end

section
/-! The command word both ways (30_encoding.md R81-R83): the decoder inverts the encoder, and a word matches a row of the
table exactly when it decodes. -/

namespace Sys2Proof.Machine

/-! ### Decoding and encoding -/

/-- Every operand of a well-formed command survives its field. -/
theorem decode_encode {i : Instr} (h : i.wf = true) : decode (encode i) = .ok i := by
  cases i with
  | initLine => simp [encode, decode]
  | execTxn len =>
    have hlen : len < 4096 := by simpa [Instr.wf] using h
    simp [encode, decode, Nat.mod_eq_of_lt hlen]
  | readByte off =>
    have hoff : off < 4096 := by simpa [Instr.wf] using h
    simp [encode, decode, Nat.mod_eq_of_lt hoff]
  | readBytes off n =>
    obtain ⟨hoff, hn⟩ : off < 4096 ∧ n < 256 := by simpa [Instr.wf] using h
    simp [encode, decode, Nat.mod_eq_of_lt hoff, Nat.mod_eq_of_lt hn]
  | detect => simp [encode, decode]

/-- An operand read from a field fits the field. -/
theorem wf_of_decode {w : Word} {i : Instr} (h : decode w = .ok i) : i.wf = true := by
  have hA : (fieldA w).toNat < 4096 := (fieldA w).isLt
  have hB : (fieldB w).toNat < 256 := (fieldB w).isLt
  rcases decode_ok h with ⟨rfl, -⟩ | ⟨rfl, -⟩ | ⟨rfl, -⟩ | ⟨rfl, -⟩ | ⟨rfl, -⟩
  · rfl
  · simpa [Instr.wf] using hA
  · simpa [Instr.wf] using hA
  · simpa [Instr.wf] using ⟨hA, hB⟩
  · rfl

/-- Settles O1: `decode` reads from the packed word the fields that `encode` put there. -/
theorem encodeThenDecode : Obligations.EncodeThenDecode :=
  fun _ => decode_encode

/-- Settles O2: a decoded command's operands come from fields of their width, and the word is its four fields. -/
theorem decodeThenEncode : Obligations.DecodeThenEncode :=
  fun _ _ h => ⟨wf_of_decode h, encode_of_decode h⟩

/-- Settles O4: each of the eleven words is decoded. -/
theorem specWordsDecode : Obligations.SpecWordsDecode := by
  unfold Obligations.SpecWordsDecode
  decide

/-! ### The table's rows -/

/-- Two words are equal when their four fields are. -/
theorem word_eq_iff_fields {w v : Word} :
    w = v ↔ fieldOp w = fieldOp v ∧ fieldA w = fieldA v ∧ fieldB w = fieldB v ∧ fieldRsv w = fieldRsv v := by
  constructor
  · rintro rfl
    exact ⟨rfl, rfl, rfl, rfl⟩
  · rintro ⟨ho, ha, hb, hr⟩
    rw [← packCmd_fields w, hr, hb, ha, ho, packCmd_fields]

/-- A word under a packed mask is compared field by field. -/
theorem and_packCmd_eq_packCmd_iff {w : Word} {r r' b b' : BitVec 8} {a a' : BitVec 12} {o o' : BitVec 4} :
    w &&& packCmd r b a o = packCmd r' b' a' o' ↔
      fieldOp w &&& o = o' ∧ fieldA w &&& a = a' ∧ fieldB w &&& b = b' ∧ fieldRsv w &&& r = r' := by
  have fieldOp_and (v : Word) : fieldOp (w &&& v) = fieldOp w &&& fieldOp v := BitVec.extractLsb'_and
  have fieldA_and (v : Word) : fieldA (w &&& v) = fieldA w &&& fieldA v := BitVec.extractLsb'_and
  have fieldB_and (v : Word) : fieldB (w &&& v) = fieldB w &&& fieldB v := BitVec.extractLsb'_and
  have fieldRsv_and (v : Word) : fieldRsv (w &&& v) = fieldRsv w &&& fieldRsv v := BitVec.extractLsb'_and
  simp [word_eq_iff_fields, fieldOp_and, fieldA_and, fieldB_and, fieldRsv_and]

/-- The fields that a command's row fixes to 0 are 0 in the word (30_encoding.md R83). -/
def FixedFieldsClear (w : Word) : Instr → Prop
  | .initLine | .detect => fieldA w = 0#12 ∧ fieldB w = 0#8 ∧ fieldRsv w = 0#8
  | .execTxn _ | .readByte _ => fieldB w = 0#8 ∧ fieldRsv w = 0#8
  | .readBytes _ _ => fieldRsv w = 0#8

/-- Every bit of a match word outside OP is 0 (30_encoding.md R83). -/
theorem matchWord_eq_packCmd (i : Instr) : matchWord i = packCmd 0#8 0#8 0#12 (opcodeOf i) := by
  cases i <;> simp only [matchWord, opcodeOf] <;> decide

/-- A word matches a command's row when it has the command's opcode and 0 in the other fields that the row fixes. -/
theorem matchesRow_iff_fields {w : Word} {i : Instr} :
    w &&& maskWord i = matchWord i ↔ fieldOp w = opcodeOf i ∧ FixedFieldsClear w i := by
  rw [matchWord_eq_packCmd]
  cases i with
  | initLine | detect =>
    have mask_eq : 0xFFFFFFFF#32 = packCmd (.allOnes 8) (.allOnes 8) (.allOnes 12) (.allOnes 4) := by decide
    simp only [maskWord, mask_eq, and_packCmd_eq_packCmd_iff, BitVec.and_allOnes, FixedFieldsClear]
  | execTxn | readByte =>
    have mask_eq : 0xFFFF000F#32 = packCmd (.allOnes 8) (.allOnes 8) 0#12 (.allOnes 4) := by decide
    simp only [maskWord, mask_eq, and_packCmd_eq_packCmd_iff, BitVec.and_allOnes, BitVec.and_zero, true_and,
      FixedFieldsClear]
  | readBytes =>
    have mask_eq : 0xFF00000F#32 = packCmd (.allOnes 8) 0#8 0#12 (.allOnes 4) := by decide
    simp only [maskWord, mask_eq, and_packCmd_eq_packCmd_iff, BitVec.and_allOnes, BitVec.and_zero, true_and,
      FixedFieldsClear]

/-- A decoded word matches its command's row. -/
theorem matchesRow_of_decode {w : Word} {i : Instr} (h : decode w = .ok i) : w &&& maskWord i = matchWord i := by
  rw [matchesRow_iff_fields]
  rcases decode_ok h with ⟨rfl, hf⟩ | ⟨rfl, hf⟩ | ⟨rfl, hf⟩ | ⟨rfl, hf⟩ | ⟨rfl, hf⟩ <;> exact hf

/-- A word that matches a row decodes, to the command of that row with the word's own operands. -/
theorem exists_decode_of_matchesRow {w : Word} {i : Instr} (h : w &&& maskWord i = matchWord i) :
    ∃ j, decode w = .ok j := by
  obtain ⟨hop, hfix⟩ := matchesRow_iff_fields.mp h
  cases i <;> exact ⟨_, by simp only [decode, hop, opcodeOf]; exact if_pos hfix⟩

/-- The decoder rejects the opcode when R82 defines none: 0 and 6 to 15. -/
theorem decode_eq_reservedOpcode_iff {w : Word} :
    decode w = .error .reservedOpcode ↔ fieldOp w = 0#4 ∨ 6 ≤ (fieldOp w).toNat := by
  rw [← BitVec.toNat_inj, BitVec.toNat_ofNat]
  unfold decode
  split
  case h_6 h1 h2 h3 h4 h5 =>
    refine iff_of_true rfl ?_
    rw [imp_false] at h1 h2 h3 h4 h5
    omega
  all_goals split <;> simp [*]

/-- Settles O3: a row matches exactly the words decoded to its command, so a word of a defined opcode is rejected for its
fields exactly when no row matches it. -/
theorem decodeFollowsTable : Obligations.DecodeFollowsTable := by
  intro w
  have noRow : (∀ i, w &&& maskWord i ≠ matchWord i) ↔ ∀ i, decode w ≠ .ok i :=
    ⟨fun h i hi => h i (matchesRow_of_decode hi), fun h _ hi => (exists_decode_of_matchesRow hi).elim h⟩
  have defined : decode w ≠ .error .reservedOpcode ↔ 1 ≤ (fieldOp w).toNat ∧ (fieldOp w).toNat ≤ 5 := by
    rw [ne_eq, decode_eq_reservedOpcode_iff, ← BitVec.toNat_inj, BitVec.toNat_ofNat]
    omega
  refine ⟨fun _ => matchesRow_of_decode, decode_eq_reservedOpcode_iff, ?_⟩
  rw [noRow, ← and_assoc, ← defined]
  cases decode w with
  | ok i => simp
  | error e => cases e <;> simp

end Sys2Proof.Machine
end

section
/-! The assembler's lines (30_encoding.md R91, R92): the words of a line are its command's word and one DATA word per byte. -/

namespace Sys2Proof.Machine

/-! ### The words of R91, as numbers -/

/-- A packed word as a number (30_encoding.md R81). -/
theorem toNat_packCmd (r b : BitVec 8) (a : BitVec 12) (o : BitVec 4) :
    (packCmd r b a o).toNat = 2 ^ 24 * r.toNat + 2 ^ 16 * b.toNat + 2 ^ 4 * a.toNat + o.toNat := by
  have toNat_append {v w : ℕ} (x : BitVec v) (y : BitVec w) : (x ++ y).toNat = 2 ^ w * x.toNat + y.toNat := by
    rw [BitVec.toNat_append, ← Nat.shiftLeft_add_eq_or_of_lt y.isLt, Nat.shiftLeft_eq, mul_comm]
  have h : (packCmd r b a o).toNat = (r ++ b ++ a ++ o).toNat := rfl
  rw [h]
  simp only [toNat_append]
  omega

/-- A packed word with a clear reserved byte, from operands that fit their fields. -/
theorem packCmd_ofNat {n off : Nat} (hn : n ≤ 255) (hoff : off ≤ 4095) (op : BitVec 4) :
    packCmd 0#8 (BitVec.ofNat 8 n) (BitVec.ofNat 12 off) op = BitVec.ofNat 32 (65536 * n + 16 * off + op.toNat) := by
  apply BitVec.eq_of_toNat_eq
  simp only [toNat_packCmd, BitVec.toNat_ofNat]
  omega

theorem encode_execTxn {len : Nat} (h : len ≤ 4095) : encode (.execTxn len) = BitVec.ofNat 32 (16 * len + 2) := by
  simpa [encode] using packCmd_ofNat (Nat.zero_le _) h 2#4

theorem encode_readByte {off : Nat} (h : off ≤ 4095) : encode (.readByte off) = BitVec.ofNat 32 (16 * off + 3) := by
  simpa [encode] using packCmd_ofNat (Nat.zero_le _) h 3#4

theorem encode_readBytes {off n : Nat} (hoff : off ≤ 4095) (hn : n ≤ 255) :
    encode (.readBytes off n) = BitVec.ofNat 32 (65536 * n + 16 * off + 4) :=
  packCmd_ofNat hn hoff 4#4

/-- Each operand's field, 12 bits for LEN and OFF and 8 for N (30_encoding.md R81), as the bound R91 states. -/
theorem wf_execTxn_iff {len : Nat} : (Instr.execTxn len).wf = true ↔ len ≤ 4095 := by
  simp [Instr.wf, Nat.lt_succ_iff]

theorem wf_readByte_iff {off : Nat} : (Instr.readByte off).wf = true ↔ off ≤ 4095 := by
  simp [Instr.wf, Nat.lt_succ_iff]

theorem wf_readBytes_iff {off n : Nat} : (Instr.readBytes off n).wf = true ↔ off ≤ 4095 ∧ n ≤ 255 := by
  simp [Instr.wf, Nat.lt_succ_iff]

/-! ### Lines -/

section

variable (c : Config)

theorem assembleLine_execTxn (bytes : List Byte) : assembleLine c (.execTxn bytes) =
    if bytes.length ≤ 4095 then some (BitVec.ofNat 32 (16 * bytes.length + 2) :: bytes.map fun b => b.setWidth 32)
    else none := by
  by_cases h : bytes.length ≤ 4095 <;> simp [assembleLine, lineCommand, expandLine, wf_execTxn_iff, encode_execTxn, h]

theorem assembleLine_readByte (off : Nat) : assembleLine c (.readByte off) =
    if off ≤ 4095 then some [BitVec.ofNat 32 (16 * off + 3)] else none := by
  by_cases h : off ≤ 4095 <;> simp [assembleLine, lineCommand, expandLine, wf_readByte_iff, encode_readByte, h]

theorem assembleLine_readBytes (off n : Nat) : assembleLine c (.readBytes off n) =
    if off ≤ 4095 ∧ n ≤ 255 then some [BitVec.ofNat 32 (65536 * n + 16 * off + 4)] else none := by
  by_cases h : off ≤ 4095 ∧ n ≤ 255
  · simp [assembleLine, lineCommand, expandLine, wf_readBytes_iff, encode_readBytes, h]
  · simp only [assembleLine, lineCommand, expandLine, wf_readBytes_iff, if_neg h]

theorem assembleLine_eq_none_iff {l : AsmLine} : assembleLine c l = none ↔ (lineCommand c l).1.wf = false := by
  simp [assembleLine]

/-- An assembled line is a word that decodes to the line's command, then a DATA word for each of its bytes. -/
theorem words_of_assembleLine {l : AsmLine} {ws : List Word} (h : assembleLine c l = some ws) :
    ∃ w ds, ws = w :: ds ∧ decode w = .ok (lineCommand c l).1 ∧ ds.map dataByte = (lineCommand c l).2 ∧
      ∀ d ∈ ds, dataRsv d = 0#24 := by
  obtain ⟨hwf, rfl⟩ : (lineCommand c l).1.wf = true ∧
      encode (lineCommand c l).1 :: (lineCommand c l).2.map (fun b => b.setWidth 32) = ws := by
    simpa [assembleLine] using h
  refine ⟨_, _, rfl, decode_encode hwf, ?_, ?_⟩
  · simp [Function.comp_def]
  · simp only [List.forall_mem_map, dataRsv_setWidth, implies_true]

end

/-- Settles O5: each row's words are its command's word as a number, which decodes by the round trip; a pseudo-instruction
assembles as the line it expands to. -/
theorem assembledLinesDecode : Obligations.AssembledLinesDecode := by
  intro c bytes off n
  refine ⟨rfl, rfl, assembleLine_execTxn c bytes, assembleLine_readByte c off, assembleLine_readBytes c off n, rfl, rfl, rfl,
    assembleLine_execTxn c [c.idCmd], rfl, rfl, rfl, fun h => ?_, fun h => ?_, fun hoff hn => ?_, ?_,
    fun b _ => dataRsv_setWidth b, fun l => ⟨assembleLine_eq_none_iff c, fun ws => words_of_assembleLine c⟩⟩
  · exact encode_execTxn h ▸ decode_encode (wf_execTxn_iff.mpr h)
  · exact encode_readByte h ▸ decode_encode (wf_readByte_iff.mpr h)
  · exact encode_readBytes hoff hn ▸ decode_encode (wf_readBytes_iff.mpr ⟨hoff, hn⟩)
  · simp only [dataByte_setWidth, List.map_id']

end Sys2Proof.Machine
end

section
/-! The line and the commands that store nothing (40_line_controller.md R100, R103): the levels of the data line, INIT_LINE,
and what the header and the reads leave unchanged. -/

namespace Sys2Proof.Machine

section

variable {s : State}

/-! ### The data line (40_line_controller.md R103) -/

/-- Unless the block drives high, the line is the wired-AND of the two drivers. -/
theorem line_of_not_driven_high (h : ¬(s.dir = true ∧ s.out = true)) : s.line = (!s.dir && !s.devLow) := by
  cases hd : s.dir with
  | false => cases hl : s.devLow <;> simp [State.line, hd, hl]
  | true =>
    have ho : s.out = false := by simpa [hd] using h
    simp [State.line, hd, ho]

theorem line_of_driven_high (hd : s.dir = true) (ho : s.out = true) (hl : s.devLow = false) : s.line = true := by
  simp [State.line, hd, ho, hl]

theorem devLow_of_noDevice (h : s.noDevice) : s.devLow = false := by
  have habsent : s.bus = .absent := h
  simp [State.devLow, habsent]

/-! ### INIT_LINE (40_line_controller.md R100) -/

/-- No check of CHECK_CMD's step 3 applies to INIT_LINE. -/
theorem exec_initLine_of_ready (h : s.ready = true) : exec .initLine s =
    .next { s with dir := false, out := false, dbgDir := true, dbgOut := false, lineInit := true } := by
  simp [exec, execInitLine, performCmd, checkCmd, h]

/-- STATUS after INIT_LINE from a reset state: LINE_INIT, and FORCE_KB as the parameter has it. -/
theorem status_initLine_resetBlock (d : ResetDraws) (s : State) :
    { resetBlock d s with dir := false, out := false, dbgDir := true, dbgOut := false, lineInit := true }.status =
      if s.cfg.forceKb then 0x00000042#32 else 0x00000002#32 := by
  simp only [State.status, State.busy, State.faultFlag, resetBlock_ctl, resetBlock_bufValid, resetBlock_diag,
    resetBlock_faultCause, resetBlock_rxcount, resetBlock_cfg]
  cases s.cfg.forceKb <;> decide

/-- The only word with INIT_LINE's opcode that decodes is 1 (30_encoding.md R83). -/
theorem decode_eq_reservedField_of_initLine {w : Word} (hop : fieldOp w = 1#4) (hrest : w.extractLsb' 4 28 ≠ 0#28) :
    decode w = .error .reservedField := by
  have hfields : ¬(fieldA w = 0#12 ∧ fieldB w = 0#8 ∧ fieldRsv w = 0#8) := fun hclear => by
    have hw : w = 1#32 := word_eq_iff_fields.mpr ⟨hop, hclear⟩
    exact hrest (by rw [hw]; decide)
  simp only [decode, hop]
  exact if_neg hfields

theorem acceptWord_of_reject {w : Word} {e : Reject} (h : s.ctl ≠ .load) (hd : decode w = .error e) :
    acceptWord w s = .next (raiseFault (rejectCause e) w s) := by
  simp [acceptWord, h, hd]

end

/-- Settles O32: by the two cases of the block's drive, and the device's drive when it is absent. -/
theorem lineIsWiredAnd : Obligations.LineIsWiredAnd :=
  fun _ => ⟨fun h => by simp [line_of_not_driven_high h], line_of_driven_high, devLow_of_noDevice⟩

/-- Settles O10: INIT_LINE leaves STATE and RSPQ, so the block is still ready and the second one writes the same values. -/
theorem initLineCompletes : Obligations.InitLineCompletes := by
  refine ⟨fun d s hkb => ?_, fun s hr => ⟨⟨_, exec_initLine_of_ready hr, rfl, ?_⟩, fun w hop hrest => ?_⟩⟩
  · have hready : (resetBlock d s).ready = true := (ready_iff _).mpr ⟨rfl, rfl⟩
    refine ⟨_, exec_initLine_of_ready hready, rfl, rfl, rfl, ?_⟩
    rw [status_initLine_resetBlock, hkb]
    rfl
  · exact exec_initLine_of_ready hr
  · have hctl := ((ready_iff s).mp hr).1
    exact acceptWord_of_reject (by simp [hctl]) (decode_eq_reservedField_of_initLine hop hrest)

/-- Settles O20: on each path of each command, turned away, faulting or performed, the state is written out. -/
theorem frameStoringNothing : Obligations.FrameStoringNothing := by
  intro s t len off n a
  refine ⟨fun h => ?_, fun h => ?_, fun h => h.elim (fun h => ?_) fun h => ?_⟩
  · rcases exec_initLine_next h with ⟨-, rfl⟩ | ⟨-, rfl⟩ <;> exact ⟨rfl, rfl, rfl⟩
  · rcases exec_execTxn_next h with ⟨-, rfl⟩ | ⟨-, c, -, rfl⟩ | ⟨-, -, rfl⟩ <;> exact ⟨rfl, rfl, rfl⟩
  · rcases exec_readByte_next h with ⟨-, rfl⟩ | ⟨-, c, -, rfl⟩ | ⟨-, -, rfl⟩ <;> exact ⟨rfl, rfl, rfl⟩
  · rcases exec_readBytes_next h with ⟨-, rfl⟩ | ⟨-, c, -, rfl⟩ | ⟨-, -, rfl⟩
    · exact ⟨rfl, rfl, rfl⟩
    · exact ⟨rfl, rfl, rfl⟩
    · rw [respondAll_eq]
      exact ⟨rfl, rfl, rfl⟩

end Sys2Proof.Machine
end

section
/-! The transmitter (40_line_controller.md R104-R108, R113): each TX and TX_STOP tick, and the ticks a frame has left, of which
every tick takes one. -/

namespace Sys2Proof.Machine

section

variable {s : State}

/-! ### One tick (40_line_controller.md R106-R108) -/

/-- The transmitter takes no word (10_state.md R43). -/
theorem blockStep_of_tx (hctl : s.ctl = .tx) (hcap : s.txidx.toNat < s.cfg.txCap) : blockStep s = .next (txAdvance s) := by
  have ha : s.accepted = none := accepted_none_of_ctl (by simp [hctl]) (by simp [hctl])
  simp [blockStep, ha, blockTick, hctl, txTick, hcap]

theorem blockStep_of_txStop (hctl : s.ctl = .txStop) : blockStep s = .next (txStopTick s) := by
  have ha : s.accepted = none := accepted_none_of_ctl (by simp [hctl]) (by simp [hctl])
  simp [blockStep, ha, blockTick, hctl]

/-- Where NEXT_BIT leads: the next bit, the next byte or the stop condition. -/
theorem nextBit_cases (s : State) :
    (s.bitidx ≠ 0#3 ∧ nextBit s = { s with bitidx := s.bitidx - 1#3, phase := .low, dir := true }) ∨
    (s.bitidx = 0#3 ∧ s.txidx.toNat + 1 < s.txlen.toNat ∧
      nextBit s =
        { s with txidx := BitVec.ofNat 8 (s.txidx.toNat + 1), bitidx := 7#3, phase := .low, dir := true }) ∨
    (s.bitidx = 0#3 ∧ ¬ s.txidx.toNat + 1 < s.txlen.toNat ∧ nextBit s = { s with ctl := .txStop, dir := true }) := by
  by_cases hb : s.bitidx = 0#3
  · by_cases hx : s.txidx.toNat + 1 < s.txlen.toNat
    · exact .inr (.inl ⟨hb, hx, by simp [nextBit, hb, hx, driveLow]⟩)
    · exact .inr (.inr ⟨hb, hx, by simp [nextBit, hb, hx, driveLow]⟩)
  · have hpos : 0 < s.bitidx.toNat := by
      simpa [Nat.pos_iff_ne_zero, ← BitVec.toNat_inj] using hb
    exact .inl ⟨hb, by simp [nextBit, hpos, driveLow]⟩

/-- Where TX_TICK leads: on in the half cell, to the released half, or to NEXT_BIT. -/
theorem txAdvance_cases (s : State) :
    (s.timer.toNat + 1 < phaseLen s.cfg s.phase s.txBit ∧ txAdvance s = setTimer (s.timer.toNat + 1) s) ∨
    (¬ s.timer.toNat + 1 < phaseLen s.cfg s.phase s.txBit ∧ s.phase = .low ∧
      txAdvance s = { s with timer := 0#16, phase := .high, dir := false }) ∨
    (¬ s.timer.toNat + 1 < phaseLen s.cfg s.phase s.txBit ∧ s.phase = .high ∧
      txAdvance s = nextBit (setTimer 0 s)) := by
  unfold txAdvance
  split
  · next hlt => exact .inl ⟨hlt, rfl⟩
  · next hend =>
    split
    · next hp => exact .inr (.inl ⟨hend, hp, rfl⟩)
    · next hp => exact .inr (.inr ⟨hend, hp, rfl⟩)

/-! ### The ticks a frame has left (40_line_controller.md R113) -/

/-- The ticks of the bytes from index `x` up. -/
def State.bytesTicks (s : State) (x : Nat) : Nat :=
  ((s.txbuf.readList x (s.txlen.toNat - x)).map fun v => bitsTicks s.cfg v 8).sum

/-- The ticks of the frame after the half cell being sent, or after the stop condition. -/
def State.frameRest (s : State) : Nat :=
  match s.ctl with
  | .tx =>
    (match s.phase with
      | .low => phaseLen s.cfg .high s.txBit
      | .high => 0) +
    bitsTicks s.cfg (s.txbufByte s.txidx.toNat) s.bitidx.toNat + s.bytesTicks (s.txidx.toNat + 1) + s.cfg.tstopLow
  | _ => 0

/-- The ticks of the frame from the present one on. -/
def State.frameLeft (s : State) : Nat := timerLimit s - s.timer.toNat + s.frameRest

theorem bytesTicks_of_lt {x : Nat} (h : x < s.txlen.toNat) :
    s.bytesTicks x = bitsTicks s.cfg (s.txbufByte x) 8 + s.bytesTicks (x + 1) := by
  obtain ⟨n, hn⟩ : ∃ n, s.txlen.toNat - x = n + 1 := ⟨s.txlen.toNat - x - 1, by omega⟩
  have hn' : s.txlen.toNat - (x + 1) = n := by omega
  simp [State.bytesTicks, hn, hn', Memory.readList, State.txbufByte]

theorem bytesTicks_of_ge {x : Nat} (h : s.txlen.toNat ≤ x) : s.bytesTicks x = 0 := by
  simp [State.bytesTicks, Nat.sub_eq_zero_of_le h, Memory.readList]

/-- At the start of a cell the bit being sent is still whole. -/
theorem frameLeft_of_cell_start (hctl : s.ctl = .tx) (hp : s.phase = .low) (ht : s.timer = 0#16) :
    s.frameLeft = bitsTicks s.cfg (s.txbufByte s.txidx.toNat) (s.bitidx.toNat + 1) + s.bytesTicks (s.txidx.toNat + 1) +
      s.cfg.tstopLow := by
  simp only [State.frameLeft, State.frameRest, timerLimit, hctl, hp, ht, bitsTicks, bitTicks, State.txBit,
    BitVec.toNat_ofNat]
  omega

/-- TIMER's limit fits TIMER (10_state.md R37). -/
theorem timerLimit_le (h : s.cfg.wf = true) : timerLimit s ≤ 65536 := by
  have hb := Config.wf_bounds h
  have hp := (phaseLen_bounds h s.phase s.txBit).2
  unfold timerLimit
  split <;> omega

theorem BlockInv.frameLeft_pos (h : BlockInv s) : 0 < s.frameLeft := by
  have := h.timing
  unfold State.frameLeft
  omega

/-- In the last tick of a half cell or of the stop condition only what follows it is left. -/
theorem BlockInv.frameLeft_of_limit (h : BlockInv s) (hend : ¬ s.timer.toNat + 1 < timerLimit s) :
    s.frameLeft = s.frameRest + 1 := by
  have := h.timing
  unfold State.frameLeft
  omega

theorem BlockInv.frameLeft_setTimer (h : BlockInv s) (hlt : s.timer.toNat + 1 < timerLimit s) :
    (setTimer (s.timer.toNat + 1) s).frameLeft + 1 = s.frameLeft := by
  have hle := timerLimit_le h.config
  have hcount : (setTimer (s.timer.toNat + 1) s).timer.toNat = s.timer.toNat + 1 := Nat.mod_eq_of_lt (by omega)
  have hleft : (setTimer (s.timer.toNat + 1) s).frameLeft =
      timerLimit s - (setTimer (s.timer.toNat + 1) s).timer.toNat + s.frameRest := rfl
  rw [hleft, hcount, State.frameLeft]
  omega

/-- NEXT_BIT from the end of a cell begins what is left of the frame. -/
theorem frameLeft_nextBit (hctl : s.ctl = .tx) (hp : s.phase = .high) (ht : s.timer = 0#16) :
    (nextBit s).frameLeft = s.frameRest := by
  have hrest : s.frameRest = bitsTicks s.cfg (s.txbufByte s.txidx.toNat) s.bitidx.toNat +
      s.bytesTicks (s.txidx.toNat + 1) + s.cfg.tstopLow := by
    simp [State.frameRest, hctl, hp]
  rw [hrest]
  rcases nextBit_cases s with ⟨hb, heq⟩ | ⟨hb, hx, heq⟩ | ⟨hb, hx, heq⟩ <;> rw [heq]
  · have hbit : (s.bitidx - 1#3).toNat + 1 = s.bitidx.toNat := by bv_omega
    rw [← hbit]
    exact frameLeft_of_cell_start hctl rfl ht
  · have hidx : (BitVec.ofNat 8 (s.txidx.toNat + 1)).toNat = s.txidx.toNat + 1 :=
      Nat.mod_eq_of_lt (by have := s.txlen.isLt; omega)
    rw [frameLeft_of_cell_start, bytesTicks_of_lt hx]
    · simp [hb, hidx, bitsTicks, State.bytesTicks, State.txbufByte]
    · exact hctl
    · rfl
    · exact ht
  · rw [bytesTicks_of_ge (by omega), hb]
    simp [State.frameLeft, State.frameRest, timerLimit, ht, bitsTicks]

theorem BlockInv.frameLeft_txAdvance (h : BlockInv s) (hctl : s.ctl = .tx) :
    (txAdvance s).frameLeft + 1 = s.frameLeft := by
  have hlimit : timerLimit s = phaseLen s.cfg s.phase s.txBit := by simp [timerLimit, hctl]
  rcases txAdvance_cases s with ⟨hlt, heq⟩ | ⟨hend, hp, heq⟩ | ⟨hend, hp, heq⟩ <;> rw [heq]
  · exact h.frameLeft_setTimer (hlimit ▸ hlt)
  · rw [h.frameLeft_of_limit (hlimit ▸ hend)]
    simp [State.frameLeft, State.frameRest, timerLimit, hctl, hp, State.txBit, State.txbufByte, State.bytesTicks]
    omega
  · rw [h.frameLeft_of_limit (hlimit ▸ hend)]
    exact congrArg (· + 1) (frameLeft_nextBit (s := setTimer 0 s) hctl hp rfl)

/-! ### A step of the transmitter -/

/-- The frame goes on. -/
structure Transmitting (s : State) : Prop where
  inv : BlockInv s
  noReset : s.noReset
  ctl : s.ctl = .tx ∨ s.ctl = .txStop

/-- What the last tick of a frame leaves (40_line_controller.md R108). -/
def AtRxWaitStart (s : State) : Prop :=
  s.ctl = .rxWait ∧ s.timer = 0#16 ∧ s.dir = false ∧ s.prev = false

theorem rstNow_of_noReset (h : s.noReset) : s.rstNow = false := by
  cases hr : s.rst with
  | nil => simp [State.rstNow, hr]
  | cons b bs => simpa [State.rstNow, hr] using h b (by simp [hr])

theorem noReset_endTick (h : s.noReset) (u : State) : (endTick s u).noReset :=
  fun b hb => h b (List.mem_of_mem_tail hb)

/-- TX_TICK stays in the transmitter. -/
theorem txAdvance_ctl (hctl : s.ctl = .tx) : (txAdvance s).ctl = .tx ∨ (txAdvance s).ctl = .txStop := by
  rcases txAdvance_cases s with ⟨-, heq⟩ | ⟨-, -, heq⟩ | ⟨-, -, heq⟩ <;> rw [heq]
  · exact .inl hctl
  · exact .inl hctl
  · rcases nextBit_cases (setTimer 0 s) with ⟨-, heq⟩ | ⟨-, -, heq⟩ | ⟨-, -, heq⟩ <;> rw [heq]
    · exact .inl hctl
    · exact .inl hctl
    · exact .inr rfl

/-- The block's transition takes one tick of the frame, and after the last the receiver listens. -/
theorem Transmitting.exists_blockStep (h : Transmitting s) : ∃ u, blockStep s = .next u ∧
    (((u.ctl = .tx ∨ u.ctl = .txStop) ∧ u.frameLeft + 1 = s.frameLeft) ∨ (s.frameLeft = 1 ∧ AtRxWaitStart u)) := by
  rcases h.ctl with hctl | hctl
  · have hcap := (h.inv.sending hctl).trans_le (h.inv.length (.inr hctl))
    exact ⟨_, blockStep_of_tx hctl hcap, .inl ⟨txAdvance_ctl hctl, h.inv.frameLeft_txAdvance hctl⟩⟩
  · refine ⟨_, blockStep_of_txStop hctl, ?_⟩
    have hlimit : timerLimit s = s.cfg.tstopLow := by simp [timerLimit, hctl]
    rcases txStopTick_cases s with ⟨hlt, heq⟩ | ⟨hend, heq⟩ <;> rw [heq]
    · exact .inl ⟨.inr hctl, h.inv.frameLeft_setTimer (hlimit ▸ hlt)⟩
    · refine .inr ⟨?_, rfl, rfl, rfl, rfl⟩
      rw [h.inv.frameLeft_of_limit (hlimit ▸ hend)]
      simp [State.frameRest, hctl]

/-- The tick's end leaves the transmitter's registers. -/
theorem Transmitting.exists_step (h : Transmitting s) : ∃ t, step s = .next t ∧
    ((Transmitting t ∧ t.frameLeft + 1 = s.frameLeft) ∨ (s.frameLeft = 1 ∧ AtRxWaitStart t)) := by
  obtain ⟨u, hu, hcase⟩ := h.exists_blockStep
  have hstep : step s = .next (endTick s u) := by
    rw [step_of_not_rst (rstNow_of_noReset h.noReset), hu, onNext_next]
  exact ⟨_, hstep, hcase.imp_left fun ⟨hctl, hleft⟩ =>
    ⟨⟨h.inv.after_step hstep, noReset_endTick h.noReset u, hctl⟩, hleft⟩⟩

theorem runTicks_succ_of_step {t : State} (h : step s = .next t) (n : Nat) : runTicks (n + 1) s = runTicks n t := by
  rw [runTicks, h, andThen_next]

/-- The transmitter runs for the ticks the frame has left, and then the receiver listens. -/
theorem Transmitting.runs {n : Nat} (h : Transmitting s) (hn : s.frameLeft = n) :
    (∀ k, k < n → ∃ u, runTicks k s = .next u ∧ (u.ctl = .tx ∨ u.ctl = .txStop)) ∧
    ∃ t, runTicks n s = .next t ∧ AtRxWaitStart t := by
  induction n generalizing s with
  | zero => exact absurd hn h.inv.frameLeft_pos.ne'
  | succ n ih =>
    obtain ⟨t, ht, hcase⟩ := h.exists_step
    have hrun := runTicks_succ_of_step ht
    rcases hcase with ⟨htx, hleft⟩ | ⟨hone, hrx⟩
    · obtain ⟨hbefore, hend⟩ := ih htx (by omega)
      refine ⟨fun k hk => ?_, (hrun n).symm ▸ hend⟩
      cases k with
      | zero => exact ⟨s, rfl, h.ctl⟩
      | succ k => exact (hrun k).symm ▸ hbefore k (by omega)
    · obtain rfl : n = 0 := by omega
      refine ⟨fun k hk => ?_, t, hrun 0, hrx⟩
      obtain rfl : k = 0 := by omega
      exact ⟨s, rfl, h.ctl⟩

/-- TXN_START leaves the whole frame to send. -/
theorem frameLeft_of_txnStart (h : AtTxnStart s) (hlen : 0 < s.txlen.toNat) :
    s.frameLeft = frameTicks s.cfg (s.txbuf.readList 0 s.txlen.toNat) := by
  have hframe : frameTicks s.cfg (s.txbuf.readList 0 s.txlen.toNat) = s.bytesTicks 0 + s.cfg.tstopLow := rfl
  rw [frameLeft_of_cell_start h.ctl h.phase h.timer, hframe, bytesTicks_of_lt hlen, h.txidx, h.bitidx]
  rfl

end

/-- Settles O25: `dur` is the length of the half cell, at whose end the line is released or NEXT_BIT leads on. -/
theorem Transmitter.txTick : Obligations.TxTick := by
  intro s hctl hcap b dur
  have hdur : dur = phaseLen s.cfg s.phase s.txBit := by
    have hb : s.txBit = b := rfl
    rw [hb]
    cases hp : s.phase <;> cases hv : b <;> simp [dur, phaseLen, hp, hv]
  rw [blockStep_of_tx hctl hcap, hdur]
  rcases txAdvance_cases s with ⟨hlt, heq⟩ | ⟨hend, hp, heq⟩ | ⟨hend, hp, heq⟩ <;> rw [heq]
  · rw [if_pos hlt]
    rfl
  · rw [if_neg hend, if_pos hp]
  · rw [if_neg hend, if_neg (by simp [hp])]
    have hnext := nextBit_cases (setTimer 0 s)
    simp only [setTimer_bitidx, setTimer_txidx, setTimer_txlen] at hnext
    rcases hnext with ⟨hb, heq⟩ | ⟨hb, hx, heq⟩ | ⟨hb, hx, heq⟩ <;> rw [heq]
    · rw [if_pos hb]
      rfl
    · rw [if_neg (not_not_intro hb), if_pos hx]
      rfl
    · rw [if_neg (not_not_intro hb), if_neg hx]
      rfl

/-- Settles O26: TX_STOP takes no word, and its tick counts or releases the line. -/
theorem Transmitter.txStopTick : Obligations.TxStopTick := by
  intro s hctl
  rw [blockStep_of_txStop hctl]
  rcases txStopTick_cases s with ⟨hlt, heq⟩ | ⟨hend, heq⟩ <;> rw [heq]
  · rw [if_pos hlt]
    rfl
  · rw [if_neg hend]
    rfl

/-- Settles O39: at TXN_START the whole frame is left, and each step takes one tick of it. -/
theorem frameDuration : Obligations.FrameDuration := by
  intro s hinv hstart hreset
  have hlen : 0 < s.txlen.toNat := Nat.zero_lt_of_lt (hinv.sending hstart.ctl)
  exact Transmitting.runs ⟨hinv, hreset, .inl hstart.ctl⟩ (frameLeft_of_txnStart hstart hlen)

end Sys2Proof.Machine
end

section
/-! The acceptance of a transaction (41_transaction.md R132-R134): its checks, EXEC_TXN's header and LOAD, and the checks on a
word (60_exceptions.md R213) as those of the command it decodes to. -/

namespace Sys2Proof.Machine

section

variable {s : State}

/-! ### A command at the port -/

theorem performCmd_of_fault {i : Instr} {c : FaultCause} {body : State → Result} (hr : s.ready = true)
    (hc : checkCmd i s = some c) : performCmd i s body = .next (raiseFault c (encode i) s) := by
  simp [performCmd, hr, hc]

theorem performCmd_of_pass {i : Instr} {body : State → Result} (hr : s.ready = true) (hc : checkCmd i s = none) :
    performCmd i s body = body s := by
  simp [performCmd, hr, hc]

theorem exec_of_fault {i : Instr} {c : FaultCause} (hr : s.ready = true) (hc : checkCmd i s = some c) :
    exec i s = .next (raiseFault c (encode i) s) := by
  obtain ⟨body, hbody⟩ := exec_eq_performCmd i s
  rw [hbody, performCmd_of_fault hr hc]

theorem exec_execTxn_of_pass {len : Nat} (hr : s.ready = true) (hc : checkCmd (.execTxn len) s = none) :
    exec (.execTxn len) s =
      .next { s with txlen := BitVec.ofNat 8 len, loadcnt := 0#8, mode := .execTxn, ctl := .load } := by
  simp only [exec, execExecTxn, performCmd_of_pass hr hc]

/-! ### DATA words in LOAD (41_transaction.md R134) -/

theorem loadWord_of_bad {d : Word} (hd : dataRsv d ≠ 0#24) : loadWord d s = .next (raiseFault .reservedField d s) := by
  simp [loadWord, hd]

theorem loadWord_of_good {d : Word} (hd : dataRsv d = 0#24) (hcap : s.loadcnt.toNat < s.cfg.txCap) :
    loadWord d s = .next (loadAdvance { s with txbuf := s.txbuf.write s.loadcnt.toNat (dataByte d) }) := by
  simp [loadWord, hd, putTxbuf_of_lt hcap]

theorem loadAdvance_of_last (h : s.loadcnt.toNat + 1 = s.txlen.toNat) : loadAdvance s = txnStart s :=
  if_pos h

theorem loadAdvance_of_more (h : s.loadcnt.toNat + 1 ≠ s.txlen.toNat) :
    loadAdvance s = { s with loadcnt := BitVec.ofNat 8 (s.loadcnt.toNat + 1) } :=
  if_neg h

theorem blockStep_of_not_accepted (h : s.accepted = none) : blockStep s = blockTick s := by
  simp [blockStep, h]

/-! ### The checks on a word (60_exceptions.md R213) -/

/-- R213 masks the opcode out of the word. -/
theorem and_opMask_toNat (w : Word) : (w &&& 0xF#32).toNat = (fieldOp w).toNat := by
  have hmask : 0xF#32 = packCmd 0#8 0#8 0#12 (.allOnes 4) := by decide
  have hword : w &&& 0xF#32 = packCmd 0#8 0#8 0#12 (fieldOp w) := by
    rw [hmask, and_packCmd_eq_packCmd_iff]
    simp only [BitVec.and_zero, BitVec.and_allOnes, and_self]
  simp [hword, toNat_packCmd]

theorem fieldA_toNat (w : Word) : (fieldA w).toNat = w.toNat / 16 % 4096 := by
  simp [fieldA, BitVec.extractLsb'_toNat, Nat.shiftRight_eq_div_pow]

theorem fieldB_toNat (w : Word) : (fieldB w).toNat = w.toNat / 65536 % 256 := by
  simp [fieldB, BitVec.extractLsb'_toNat, Nat.shiftRight_eq_div_pow]

/-- The offset's alignment is that of all the bits above OP. -/
theorem fieldA_mod_eight (w : Word) : (fieldA w).toNat % 8 = w.toNat / 16 % 8 := by
  rw [fieldA_toNat]
  omega

/-- A word that decodes matches its row, so only the checks on the state remain. -/
theorem checkWord_of_decode {w : Word} {i : Instr} (hd : decode w = .ok i) : checkWord w s = checkCmd i s := by
  have hrow := matchesRow_of_decode hd
  rcases decode_ok hd with ⟨rfl, hop, -⟩ | ⟨rfl, hop, -⟩ | ⟨rfl, hop, -⟩ | ⟨rfl, hop, -⟩ | ⟨rfl, hop, -⟩ <;>
    simp only [maskWord, matchWord] at hrow <;>
    simp only [checkWord, and_opMask_toNat, hop, BitVec.toNat_ofNat, Nat.reducePow, Nat.reduceMod, hrow, ne_eq,
      not_true, if_false, checkCmd]
  · cases hi : s.lineInit <;> simp [checkInit, checkLen, hi, fieldA_toNat]
  · simp [checkRead, aligned, byteIndex, ← fieldA_mod_eight, ← fieldA_toNat]
  · simp [checkRead, aligned, byteIndex, ← fieldA_mod_eight, ← fieldA_toNat, ← fieldB_toNat]
  · cases hi : s.lineInit <;> simp [checkInit, hi]

/-- A word that is no command fails a check on its bits. -/
theorem checkWord_of_reject {w : Word} {e : Reject} (hd : decode w = .error e) :
    checkWord w s = some (rejectCause e) := by
  unfold checkWord
  rw [and_opMask_toNat]
  cases e with
  | reservedOpcode =>
    have hop : fieldOp w = 0#4 ∨ 6 ≤ (fieldOp w).toNat := decode_eq_reservedOpcode_iff.mp hd
    rw [← BitVec.toNat_inj, BitVec.toNat_ofNat] at hop
    split
    case h_6 => rfl
    all_goals omega
  | reservedField =>
    obtain ⟨-, -, hfield⟩ := decodeFollowsTable w
    obtain ⟨hlow, hhigh, hrow⟩ := hfield.mp hd
    split
    case h_1 => exact if_pos (hrow .initLine)
    case h_2 => exact if_pos (hrow (.execTxn 0))
    case h_3 => exact if_pos (hrow (.readByte 0))
    case h_4 => exact if_pos (hrow (.readBytes 0 0))
    case h_5 => exact if_pos (hrow .detect)
    case h_6 h1 h2 h3 h4 h5 =>
      rw [imp_false] at h1 h2 h3 h4 h5
      omega

end

/-- Settles O11: the header's checks pass, and LEN fits TXLEN because TX_CAP is at most 255. -/
theorem execTxnHeaderCompletes : Obligations.ExecTxnHeaderCompletes := by
  intro s len hr hi hlen hcap hcfg
  have hbound := Config.wf_bounds hcfg
  have hpass : checkCmd (.execTxn len) s = none := (checkCmd_execTxn_eq_none len s).mpr ⟨hi, hlen, hcap⟩
  exact ⟨_, exec_execTxn_of_pass hr hpass, Nat.mod_eq_of_lt (by omega), rfl⟩

/-- Settles O18: LINE_INIT is checked first, then the length; the first failing check is the fault taken. -/
theorem transactionFaults : Obligations.TransactionFaults := by
  intro s len hr
  refine ⟨fun hi => ⟨exec_of_fault hr ?_, exec_of_fault hr ?_⟩, fun hi hlen => exec_of_fault hr ?_⟩
  · simp [checkCmd, checkInit, hi]
  · simp [checkCmd, checkInit, hi]
  · simp [checkCmd, checkInit, checkLen, hi, hlen]

/-- Settles O12: a DATA word faults or is stored, and then LOADCNT tells whether it was the last. -/
theorem loadWordCompletes : Obligations.LoadWordCompletes := by
  intro s hctl
  refine ⟨fun d hd => ?_, fun d hd hcap hmore => ?_, fun d hd hcap hlast => ?_, fun ha => ?_⟩
  · rw [acceptWord_of_load hctl, loadWord_of_bad hd]
    rfl
  · rw [acceptWord_of_load hctl, loadWord_of_good hd hcap]
    exact congrArg Host.Outcome.next (loadAdvance_of_more hmore)
  · rw [acceptWord_of_load hctl, loadWord_of_good hd hcap]
    exact congrArg Host.Outcome.next (loadAdvance_of_last hlast)
  · rw [blockStep_of_not_accepted ha]
    simp [blockTick, hctl]

end Sys2Proof.Machine
end

section
/-! The receiver's ticks (41_transaction.md R137-R139): an edge, one more tick, the sample, and the end with its outcome
(R141, R143, R144). -/

namespace Sys2Proof.Machine

section

variable {s : State}

/-! ### The end of a transaction, by its return code (41_transaction.md R144) -/

theorem txnEnd_timeout (s : State) : txnEnd 0#8 s =
    { s with ie := s.savedIe, rxcount := 0#8, bufValid := false, diag := .timeout, timer := 0#16, ctl := .postDelay } :=
  rfl

theorem txnEnd_rxErr (s : State) : txnEnd Config.rxErr s =
    { s with ie := s.savedIe, rxcount := 0#8, bufValid := false, diag := .lineError, timer := 0#16, ctl := .postDelay } :=
  rfl

/-- The code of a count is neither the timeout's nor the line error's (41_transaction.md R143). -/
theorem toNat_ofNat_count {m : Nat} (h1 : 1 ≤ m) (h40 : m ≤ Config.bufCap) :
    (BitVec.ofNat 8 m).toNat = m ∧ BitVec.ofNat 8 m ≠ 0#8 ∧ BitVec.ofNat 8 m ≠ Config.rxErr := by
  have hcap : m ≤ 40 := h40
  simp only [ne_eq, ← BitVec.toNat_inj, BitVec.toNat_ofNat, Config.rxErr]
  omega

theorem txnEnd_count (s : State) {m : Nat} (h1 : 1 ≤ m) (h40 : m ≤ Config.bufCap) : txnEnd (BitVec.ofNat 8 m) s =
    { s with
      ie := s.savedIe, rxcount := BitVec.ofNat 8 m, bufValid := true, diag := .ok, timer := 0#16, ctl := .postDelay } := by
  obtain ⟨hm, hzero, herr⟩ := toNat_ofNat_count h1 h40
  have hpos : 0 < m := h1
  simp only [txnEnd, normalizeRc, diagOf, hzero, herr, if_false, hm, hpos, decide_true]

/-! ### The framing check (41_transaction.md R141) -/

theorem rxOutcome_of_bytes {m : Nat} (h1 : 1 ≤ m) (h40 : m ≤ Config.bufCap) :
    rxOutcome (8 * m + 1) = BitVec.ofNat 8 m := by
  have hframe : (8 * m + 1) % 8 = 1 ∧ 9 ≤ 8 * m + 1 ∧ 8 * m + 1 ≤ 8 * Config.bufCap + 1 := by omega
  have hcount : (8 * m + 1) / 8 = m := by omega
  rw [rxOutcome, if_pos hframe, hcount]

theorem rxOutcome_of_not_bytes {n : Nat} (h : ¬ ∃ m, 1 ≤ m ∧ m ≤ Config.bufCap ∧ n = 8 * m + 1) :
    rxOutcome n = Config.rxErr := by
  have hframe : ¬ (n % 8 = 1 ∧ 9 ≤ n ∧ n ≤ 8 * Config.bufCap + 1) := fun hn =>
    h ⟨n / 8, by omega, by omega, by omega⟩
  rw [rxOutcome, if_neg hframe]

/-! ### One tick -/

theorem blockStep_of_rxWait (hctl : s.ctl = .rxWait) : blockStep s = .next (rxWaitTick s) := by
  rw [blockStep_of_rxPhase (by rw [hctl]; rfl), blockTick, hctl]

theorem blockStep_of_rxBit (hctl : s.ctl = .rxBit) : blockStep s = .next (rxBitTick s) := by
  rw [blockStep_of_rxPhase (by rw [hctl]; rfl), blockTick, hctl]

theorem blockStep_of_rxGap (hctl : s.ctl = .rxGap) : blockStep s = .next (rxGapTick s) := by
  rw [blockStep_of_rxPhase (by rw [hctl]; rfl), blockTick, hctl]

theorem edge_eq_true_iff : s.edge = true ↔ s.prev = true ∧ s.line = false := by
  simp [State.edge]

theorem edge_eq_false_iff : s.edge = false ↔ s.prev = false ∨ s.line = true := by
  cases hp : s.prev <;> simp [State.edge, hp]

/-- A falling edge is an edge. -/
theorem not_falling_of_edge_false (h : s.edge = false) (hp : s.prev = true) (hl : s.line = false) : False := by
  simp [edge_eq_true_iff.mpr ⟨hp, hl⟩] at h

/-- EDGE's write where the line is low. -/
theorem recordLine_of_low (h : s.line = false) : recordLine s = { s with prev := false } := by
  rw [recordLine, h]

/-- PACK_BIT's writes (42_buffer.md R170). -/
theorem packBit_eq (b : Bool) (s : State) : packBit b s =
    { s with shift := shiftIn s.shift b, nbits := BitVec.ofNat 16 (s.nbits.toNat + 1), wbuf := (packBit b s).wbuf } := by
  obtain ⟨m, heq⟩ := packBit_frame b s
  rw [heq]

end

/-- Settles O27: the tick sees an edge, has time left, or ends the transaction with the timeout's code. -/
theorem Receiver.rxWaitTick : Obligations.RxWaitTick := by
  intro s hctl
  rw [blockStep_of_rxWait hctl, ← edge_eq_false_iff]
  rcases rxWaitTick_cases s with ⟨he, heq⟩ | ⟨he, hlt, heq⟩ | ⟨he, hend, heq⟩ <;> rw [heq]
  · obtain ⟨-, hl⟩ := edge_eq_true_iff.mp he
    rw [recordLine_of_low hl]
    exact ⟨fun _ _ => rfl, by simp [he], by simp [he]⟩
  · exact ⟨fun hp hl => (not_falling_of_edge_false he hp hl).elim, fun _ _ => rfl,
      fun _ hge => absurd hlt hge.not_gt⟩
  · exact ⟨fun hp hl => (not_falling_of_edge_false he hp hl).elim, fun _ hlt => absurd hlt hend,
      fun _ _ => by rw [txnEnd_timeout]; rfl⟩

/-- Settles O28: TIMER is before the sample point, or the line is packed and NBITS tells whether the receive goes on. -/
theorem Receiver.rxBitTick : Obligations.RxBitTick := by
  intro s hctl k sh m
  have hpack : packBit s.line (setTimer (s.timer.toNat + 1) (recordLine s)) =
      { s with
        prev := s.line, timer := BitVec.ofNat 16 (s.timer.toNat + 1)
        shift := sh, nbits := BitVec.ofNat 16 k, wbuf := m } := by
    rw [packBit_eq, packBit_wbuf]
    rfl
  rw [blockStep_of_rxBit hctl]
  rcases rxBitTick_cases s with ⟨hne, heq⟩ | ⟨hs, hk, heq⟩ | ⟨hs, hk, heq⟩ <;> rw [heq]
  · exact ⟨fun _ => rfl, fun hs => absurd hs hne, fun hs => absurd hs hne⟩
  · rw [hpack]
    exact ⟨fun hne => absurd hs hne, fun _ _ => rfl, fun _ h322 => absurd h322 hk⟩
  · rw [hpack, txnEnd_rxErr]
    exact ⟨fun hne => absurd hs hne, fun _ hne => absurd hk hne, fun _ _ => rfl⟩

/-- Settles O29: the tick sees an edge, has time left, or ends the transaction with the code of the framing check. -/
theorem Receiver.rxGapTick : Obligations.RxGapTick := by
  intro s hctl
  rw [blockStep_of_rxGap hctl, ← edge_eq_false_iff]
  rcases rxGapTick_cases s with ⟨he, heq⟩ | ⟨he, hlt, heq⟩ | ⟨he, hend, heq⟩ <;> rw [heq]
  · obtain ⟨-, hl⟩ := edge_eq_true_iff.mp he
    rw [recordLine_of_low hl]
    exact ⟨fun _ _ => rfl, by simp [he], by simp [he]⟩
  · exact ⟨fun hp hl => (not_falling_of_edge_false he hp hl).elim, fun _ _ => rfl,
      fun _ hge => absurd hlt hge.not_gt⟩
  · refine ⟨fun hp hl => (not_falling_of_edge_false he hp hl).elim, fun _ hlt => absurd hlt hend,
      fun _ _ => ⟨fun m h1 h40 hbits => ?_, fun hbits => ?_⟩⟩
    · rw [hbits, rxOutcome_of_bytes h1 h40, txnEnd_count _ h1 h40]
      rfl
    · rw [rxOutcome_of_not_bytes hbits, txnEnd_rxErr]
      rfl

end Sys2Proof.Machine
end

section
/-! Every transition of STATE (41_transaction.md R152): by the word accepted, or by the tick's rule. -/

namespace Sys2Proof.Machine

section

variable {s u : State}

/-! ### A CMD word -/

/-- The first failing check of a word is the fault it takes (60_exceptions.md R213, R214). -/
theorem acceptWord_of_fault {w : Word} {c : FaultCause} (hr : s.ready = true) (hc : checkWord w s = some c) :
    acceptWord w s = .next (raiseFault c w s) := by
  have hctl : s.ctl ≠ .load := by simp [((ready_iff s).mp hr).1]
  cases hd : decode w with
  | error e =>
    rw [checkWord_of_reject hd, Option.some.injEq] at hc
    rw [acceptWord_of_reject hctl hd, hc]
  | ok i =>
    rw [checkWord_of_decode hd] at hc
    rw [acceptWord_of_decode hctl hd, exec_of_fault hr hc, encode_of_decode hd]

/-- A word that passes every check is a command, and it is performed (60_exceptions.md R213). -/
theorem acceptWord_of_pass {w : Word} (hctl : s.ctl ≠ .load) (hc : checkWord w s = none) :
    ∃ i, decode w = .ok i ∧ checkCmd i s = none ∧ acceptWord w s = exec i s := by
  cases hd : decode w with
  | error e => simp [checkWord_of_reject hd] at hc
  | ok i => exact ⟨i, rfl, checkWord_of_decode hd ▸ hc, acceptWord_of_decode hctl hd⟩

/-- STATE after a command that passes its checks. -/
def ctlAfterCmd : Instr → Ctl
  | .initLine | .readByte _ | .readBytes _ _ => .idle
  | .execTxn _ => .load
  | .detect => .tx

theorem exec_ctl_of_pass {i : Instr} (hr : s.ready = true) (hc : checkCmd i s = none) (h : exec i s = .next u) :
    u.ctl = ctlAfterCmd i := by
  have hidle := ((ready_iff s).mp hr).1
  cases i with
  | initLine =>
    rcases exec_initLine_next h with ⟨hn, -⟩ | ⟨-, rfl⟩
    · simp [hr] at hn
    · exact hidle
  | execTxn len =>
    rw [exec_execTxn_of_pass hr hc] at h
    cases h
    rfl
  | readByte off =>
    rcases exec_readByte_next h with ⟨hn, -⟩ | ⟨-, c, hf, -⟩ | ⟨-, -, rfl⟩
    · simp [hr] at hn
    · cases hf.symm.trans hc
    · exact hidle
  | readBytes off n =>
    rcases exec_readBytes_next h with ⟨hn, -⟩ | ⟨-, c, hf, -⟩ | ⟨-, -, rfl⟩
    · simp [hr] at hn
    · cases hf.symm.trans hc
    · rw [respondAll_eq]
      exact hidle
  | detect =>
    rcases exec_detect_next h with ⟨hn, -⟩ | ⟨-, hi, -⟩ | ⟨-, -, -, rfl⟩
    · simp [hr] at hn
    · simp [checkCmd, checkInit, hi] at hc
    · rfl

/-- The row of IDLE, a CMD word that passes its checks. -/
theorem acceptWord_ctl_of_pass {w : Word} (hr : s.ready = true) (hc : checkWord w s = none)
    (h : acceptWord w s = .next u) :
    ((fieldOp w = 1#4 ∨ fieldOp w = 3#4 ∨ fieldOp w = 4#4) → u.ctl = .idle) ∧
    (fieldOp w = 2#4 → u.ctl = .load) ∧ (fieldOp w = 5#4 → u.ctl = .tx) := by
  have hctl : s.ctl ≠ .load := by simp [((ready_iff s).mp hr).1]
  obtain ⟨i, hd, hci, heq⟩ := acceptWord_of_pass hctl hc
  rw [exec_ctl_of_pass hr hci (heq ▸ h)]
  rcases decode_ok hd with ⟨rfl, hop, -⟩ | ⟨rfl, hop, -⟩ | ⟨rfl, hop, -⟩ | ⟨rfl, hop, -⟩ | ⟨rfl, hop, -⟩ <;>
    simp [hop, ctlAfterCmd]

/-! ### A DATA word -/

theorem loadAdvance_ctl (hctl : s.ctl = .load) :
    (loadAdvance s).ctl = if s.loadcnt.toNat + 1 = s.txlen.toNat then .tx else .load := by
  split
  · next hlast => rw [loadAdvance_of_last hlast]; rfl
  · next hmore => rw [loadAdvance_of_more hmore]; exact hctl

theorem loadWord_ctl {w : Word} (hctl : s.ctl = .load) (h : loadWord w s = .next u) : u.ctl =
    if dataRsv w ≠ 0#24 then .faulted else if s.loadcnt.toNat + 1 = s.txlen.toNat then .tx else .load := by
  rcases loadWord_cases h with ⟨hd, rfl⟩ | ⟨hd, -, rfl⟩
  · rw [if_pos hd]
    rfl
  · rw [if_neg (not_not_intro hd)]
    exact loadAdvance_ctl hctl

/-! ### The tick rules -/

theorem blockStep_eq_of_tx (hctl : s.ctl = .tx) (h : blockStep s = .next u) : u = txAdvance s := by
  have ha : s.accepted = none := accepted_none_of_ctl (by simp [hctl]) (by simp [hctl])
  rw [blockStep_of_not_accepted ha, blockTick, hctl] at h
  simp only [txTick] at h
  split at h
  · cases h
    rfl
  · cases h

theorem blockStep_of_postDelay (hctl : s.ctl = .postDelay) : blockStep s = .next (postDelayTick s) := by
  have ha : s.accepted = none := accepted_none_of_ctl (by simp [hctl]) (by simp [hctl])
  rw [blockStep_of_not_accepted ha, blockTick, hctl]

theorem blockStep_of_classify (hctl : s.ctl = .classify) : blockStep s = .next (classifyTick s) := by
  have ha : s.accepted = none := accepted_none_of_ctl (by simp [hctl]) (by simp [hctl])
  rw [blockStep_of_not_accepted ha, blockTick, hctl]

/-- With no word IDLE, LOAD and FAULTED stay. -/
theorem blockStep_of_waiting (ha : s.accepted = none) (hctl : s.ctl = .idle ∨ s.ctl = .load ∨ s.ctl = .faulted) :
    blockStep s = .next s := by
  rw [blockStep_of_not_accepted ha, blockTick]
  rcases hctl with hctl | hctl | hctl <;> rw [hctl]

theorem txAdvance_ctl_eq (hctl : s.ctl = .tx) : (txAdvance s).ctl =
    if s.timer.toNat + 1 < phaseLen s.cfg s.phase s.txBit ∨ s.phase = .low ∨ s.bitidx ≠ 0#3 ∨
        s.txidx.toNat + 1 < s.txlen.toNat
    then .tx else .txStop := by
  rcases txAdvance_cases s with ⟨hlt, heq⟩ | ⟨-, hp, heq⟩ | ⟨hend, hp, heq⟩ <;> rw [heq]
  · simp [hlt, hctl]
  · simp [hp, hctl]
  · have hnext := nextBit_cases (setTimer 0 s)
    simp only [setTimer_bitidx, setTimer_txidx, setTimer_txlen] at hnext
    rcases hnext with ⟨hb, heq⟩ | ⟨hb, hx, heq⟩ | ⟨hb, hx, heq⟩ <;> rw [heq]
    · simp [hb, hctl]
    · simp [hx, hctl]
    · rw [hp] at hend
      simp [hp, hb, hx, not_lt.mp hend]

theorem txStopTick_ctl (hctl : s.ctl = .txStop) :
    (txStopTick s).ctl = if s.timer.toNat + 1 < s.cfg.tstopLow then .txStop else .rxWait := by
  rcases txStopTick_cases s with ⟨hlt, heq⟩ | ⟨hend, heq⟩ <;> rw [heq]
  · simp [hlt, hctl]
  · simp [hend]

theorem rxWaitTick_ctl (hctl : s.ctl = .rxWait) : (rxWaitTick s).ctl =
    if s.edge then .rxBit else if s.timer.toNat + 1 < s.cfg.tRxTimeout then .rxWait else .postDelay := by
  rcases rxWaitTick_cases s with ⟨he, heq⟩ | ⟨he, hlt, heq⟩ | ⟨he, hend, heq⟩ <;> rw [heq]
  · simp [he]
  · simp [he, hlt, hctl]
  · simp [he, hend]

theorem rxBitTick_ctl (hctl : s.ctl = .rxBit) : (rxBitTick s).ctl =
    if s.timer.toNat + 1 ≠ s.cfg.tSample then .rxBit else if s.nbits.toNat + 1 = Config.nbitsMax then .postDelay
    else .rxGap := by
  rcases rxBitTick_cases s with ⟨hne, heq⟩ | ⟨hs, hk, heq⟩ | ⟨hs, hk, heq⟩ <;> rw [heq]
  · simp [hne, hctl]
  · simp [hs, hk]
  · simp [hs, hk]

theorem rxGapTick_ctl (hctl : s.ctl = .rxGap) : (rxGapTick s).ctl =
    if s.edge then .rxBit else if s.timer.toNat + 1 < s.cfg.tGap then .rxGap else .postDelay := by
  rcases rxGapTick_cases s with ⟨he, heq⟩ | ⟨he, hlt, heq⟩ | ⟨he, hend, heq⟩ <;> rw [heq]
  · simp [he]
  · simp [he, hlt, hctl]
  · simp [he, hend]

theorem postDelayTick_ctl (hctl : s.ctl = .postDelay) : (postDelayTick s).ctl =
    if s.timer.toNat + 1 < s.cfg.tPost then .postDelay else if s.mode = .execTxn then .idle else .classify := by
  rcases postDelayTick_cases s with ⟨hlt, heq⟩ | ⟨hend, hm, heq⟩ | ⟨hend, hm, heq⟩ <;> rw [heq]
  · simp [hlt, hctl]
  · simp [hend, hm]
  · simp [hend, hm]

end

/-- Settles O50: the tick's end leaves STATE, so each row is the accepted word's or the tick rule's. -/
theorem stateTransitions : Obligations.StateTransitions := by
  intro s t hr ht
  rw [step_of_not_rst hr] at ht
  obtain ⟨u, hu, rfl⟩ := onNext_eq_next.mp ht
  rw [endTick_ctl]
  -- In a state whose transition is known, STATE is read off it.
  have row {v : State} {c : Ctl} (hv : blockStep s = .next v) (hc : v.ctl = c) : u.ctl = c := by
    cases hu.symm.trans hv
    exact hc
  refine ⟨fun hctl ha => ?_, fun w hctl ha => ?_, fun hctl ha => ?_, fun w hctl ha => ?_, fun hctl => ?_, fun hctl => ?_,
    fun hctl => ?_, fun hctl => ?_, fun hctl => ?_, fun hctl => ?_, fun hctl => ?_, fun hctl => ?_⟩
  · exact row (blockStep_of_waiting ha (.inl hctl)) hctl
  · have hready : s.ready = true := (accepted_ready ha).2.2.resolve_right (by simp [hctl])
    rw [blockStep_of_accepted ha] at hu row
    exact ⟨fun c hc => row (acceptWord_of_fault hready hc) rfl, fun hc => acceptWord_ctl_of_pass hready hc hu⟩
  · exact row (blockStep_of_waiting ha (.inr (.inl hctl))) hctl
  · rw [blockStep_of_accepted ha, acceptWord_of_load hctl] at hu
    exact loadWord_ctl hctl hu
  · rw [blockStep_eq_of_tx hctl hu]
    exact txAdvance_ctl_eq hctl
  · exact row (blockStep_of_txStop hctl) (txStopTick_ctl hctl)
  · exact row (blockStep_of_rxWait hctl) (rxWaitTick_ctl hctl)
  · exact row (blockStep_of_rxBit hctl) (rxBitTick_ctl hctl)
  · exact row (blockStep_of_rxGap hctl) (rxGapTick_ctl hctl)
  · exact row (blockStep_of_postDelay hctl) (postDelayTick_ctl hctl)
  · exact row (blockStep_of_classify hctl) rfl
  · have ha : s.accepted = none := accepted_none_of_ctl (by simp [hctl]) (by simp [hctl])
    exact row (blockStep_of_waiting ha (.inr (.inr hctl))) hctl

end Sys2Proof.Machine
end

section
/-! IE and SAVED_IE (41_transaction.md R142, R149): the block's transition starts a transaction, goes on with one, ends one or
has nothing to do with one. -/

namespace Sys2Proof.Machine

section

variable {s t u : State}

/-- What the block's transition from `s` does to IE and SAVED_IE, and with which change of STATE. -/
inductive IeEffect (s u : State) : Prop
  | start (hs : txnPhase s.ctl = false) (hu : u.ctl = .tx) (ie : u.ie = false) (saved : u.savedIe = s.ie)
  | within (hs : txnPhase s.ctl = true) (hu : txnPhase u.ctl = true) (ie : u.ie = s.ie) (saved : u.savedIe = s.savedIe)
  | finish (hs : txnPhase s.ctl = true) (hu : u.ctl = .postDelay) (ie : u.ie = s.savedIe)
  | outside (hs : txnPhase s.ctl = false) (hu : txnPhase u.ctl = false) (ie : u.ie = s.ie)

theorem loadAdvance_ieEffect (hctl : s.ctl = .load) (m : Memory) : IeEffect s (loadAdvance { s with txbuf := m }) := by
  have hs : txnPhase s.ctl = false := by rw [hctl]; rfl
  unfold loadAdvance
  split
  · exact .start hs rfl rfl rfl
  · exact .outside hs hs rfl

theorem txAdvance_ieEffect (hctl : s.ctl = .tx) : IeEffect s (txAdvance s) := by
  have hu : txnPhase (txAdvance s).ctl = true := by rcases txAdvance_ctl hctl with hc | hc <;> rw [hc] <;> rfl
  obtain ⟨c, p, b, x, d, tm, heq⟩ := txAdvance_frame s
  rw [heq] at hu ⊢
  exact .within (by rw [hctl]; rfl) hu rfl rfl

theorem txStopTick_ieEffect (hctl : s.ctl = .txStop) : IeEffect s (txStopTick s) := by
  have hs : txnPhase s.ctl = true := by rw [hctl]; rfl
  rcases txStopTick_cases s with ⟨-, heq⟩ | ⟨-, heq⟩ <;> rw [heq]
  · exact .within hs hs rfl rfl
  · exact .within hs rfl rfl rfl

theorem rxWaitTick_ieEffect (hctl : s.ctl = .rxWait) : IeEffect s (rxWaitTick s) := by
  have hs : txnPhase s.ctl = true := by rw [hctl]; rfl
  rcases rxWaitTick_cases s with ⟨-, heq⟩ | ⟨-, -, heq⟩ | ⟨-, -, heq⟩ <;> rw [heq]
  · exact .within hs rfl rfl rfl
  · exact .within hs hs rfl rfl
  · exact .finish hs rfl rfl

theorem rxBitTick_ieEffect (hctl : s.ctl = .rxBit) : IeEffect s (rxBitTick s) := by
  have hs : txnPhase s.ctl = true := by rw [hctl]; rfl
  rcases rxBitTick_cases s with ⟨-, heq⟩ | ⟨-, -, heq⟩ | ⟨-, -, heq⟩ <;> rw [heq]
  · exact .within hs hs rfl rfl
  · rw [packBit_eq]
    exact .within hs rfl rfl rfl
  · rw [packBit_eq]
    exact .finish hs rfl rfl

theorem rxGapTick_ieEffect (hctl : s.ctl = .rxGap) : IeEffect s (rxGapTick s) := by
  have hs : txnPhase s.ctl = true := by rw [hctl]; rfl
  rcases rxGapTick_cases s with ⟨-, heq⟩ | ⟨-, -, heq⟩ | ⟨-, -, heq⟩ <;> rw [heq]
  · exact .within hs rfl rfl rfl
  · exact .within hs hs rfl rfl
  · exact .finish hs rfl rfl

theorem postDelayTick_ieEffect (hctl : s.ctl = .postDelay) : IeEffect s (postDelayTick s) := by
  have hs : txnPhase s.ctl = false := by rw [hctl]; rfl
  rcases postDelayTick_cases s with ⟨-, heq⟩ | ⟨-, -, heq⟩ | ⟨-, -, heq⟩ <;> rw [heq]
  · exact .outside hs hs rfl
  · exact .outside hs rfl rfl
  · exact .outside hs rfl rfl

theorem blockStep_ieEffect (h : blockStep s = .next u) : IeEffect s u := by
  have idle (hctl : s.ctl = .idle) : txnPhase s.ctl = false := by rw [hctl]; rfl
  rcases blockStep_effects h with ⟨-, hctl, rfl⟩ | ⟨w, c, -, hctl, -, rfl⟩ | ⟨-, hctl, rfl⟩ |
    ⟨w, len, -, hctl, -, -, -, rfl⟩ | ⟨w, q, -, hctl, -, rfl⟩ | ⟨w, -, hctl, -, -, rfl⟩ |
    ⟨w, -, hctl, -, rfl⟩ | ⟨hctl, -, rfl⟩ | ⟨hctl, rfl⟩ | ⟨hctl, rfl⟩ | ⟨hctl, rfl⟩ | ⟨hctl, rfl⟩ | ⟨hctl, rfl⟩ |
    ⟨hctl, rfl⟩
  · have hs : txnPhase u.ctl = false := by rcases hctl with hc | hc | hc <;> rw [hc] <;> rfl
    exact .outside hs hs rfl
  · exact .outside (by rcases hctl with hc | hc <;> rw [hc] <;> rfl) rfl rfl
  · exact .outside (idle hctl) (idle hctl) rfl
  · exact .outside (idle hctl) rfl rfl
  · exact .outside (idle hctl) (idle hctl) rfl
  · exact .start (idle hctl) rfl rfl rfl
  · exact loadAdvance_ieEffect hctl _
  · exact txAdvance_ieEffect hctl
  · exact txStopTick_ieEffect hctl
  · exact rxWaitTick_ieEffect hctl
  · exact rxBitTick_ieEffect hctl
  · exact rxGapTick_ieEffect hctl
  · exact postDelayTick_ieEffect hctl
  · exact .outside (by rw [hctl]; rfl) rfl rfl

/-! ### The tick's end -/

/-- A tick that begins in a transaction phase leaves the host no write of IE (10_state.md R53). -/
theorem ieAfter_from_txnPhase (h : txnPhase s.ctl = true) (u : State) : ieAfter s u = u.ie := by
  simp [ieAfter, h]

theorem ieAfter_of_ieUntouched (h : s.ieUntouched) (u : State) : ieAfter s u = u.ie := by
  have hnone : s.host.ieWrite.headD none = none := by
    cases hw : s.host.ieWrite with
    | nil => rfl
    | cons v vs => exact h v (by simp [hw])
  rw [ieAfter, hnone, Option.getD_none, ite_self]

/-- A step of a transaction phase keeps IE and SAVED_IE where the transaction goes on, and restores IE where it ends. -/
theorem step_from_txnPhase (hs : txnPhase s.ctl = true) (h : step s = .next t) :
    (txnPhase t.ctl = true → t.ie = s.ie ∧ t.savedIe = s.savedIe) ∧ (t.ctl = .postDelay → t.ie = s.savedIe) := by
  rcases step_cases h with ⟨-, rfl⟩ | ⟨-, u, hu, rfl⟩
  · exact ⟨nofun, nofun⟩
  · rw [endTick_ie, ieAfter_from_txnPhase hs, endTick_ctl]
    cases blockStep_ieEffect hu with
    | start hn | outside hn => simp [hs] at hn
    | within _ hc ie saved => exact ⟨fun _ => ⟨ie, saved⟩, fun hp => by simp [hp, txnPhase] at hc⟩
    | finish _ hc ie => exact ⟨fun hp => by simp [hc, txnPhase] at hp, fun _ => ie⟩

/-- The step of TXN_START saves IE and clears it. -/
theorem step_to_tx (hs : txnPhase s.ctl = false) (h : step s = .next t) (ht : t.ctl = .tx) :
    t.ie = false ∧ t.savedIe = s.ie := by
  rcases step_cases h with ⟨-, rfl⟩ | ⟨-, u, hu, rfl⟩
  · cases ht
  · have hie := ieAfter_of_txnPhase s (t := u) (by rw [endTick_ctl] at ht; rw [ht]; rfl)
    cases blockStep_ieEffect hu with
    | start _ _ ie saved => exact ⟨hie.trans ie, saved⟩
    | within hn | finish hn => simp [hs] at hn
    | outside _ hn =>
      rw [endTick_ctl] at ht
      simp [ht, txnPhase] at hn

/-- While the transaction runs IE is 0; at its end IE is SAVED_IE. -/
theorem runTicks_ie {n : Nat} (hs : txnPhase s.ctl = true) (hie : s.ie = false) (h : runTicks n s = .next t)
    (hrun : ∀ k, k < n → ∃ v, runTicks k s = .next v ∧ txnPhase v.ctl = true) :
    (txnPhase t.ctl = true → t.ie = false) ∧ (t.ctl = .postDelay → t.ie = s.savedIe) := by
  induction n generalizing s with
  | zero =>
    cases h
    exact ⟨fun _ => hie, fun hc => by simp [hc, txnPhase] at hs⟩
  | succ n ih =>
    obtain ⟨u, hu, hrest⟩ := andThen_eq_next.mp h
    obtain ⟨hwithin, hend⟩ := step_from_txnPhase hs hu
    have hshift := runTicks_succ_of_step hu
    cases n with
    | zero =>
      cases hrest
      exact ⟨fun hc => (hwithin hc).1.trans hie, hend⟩
    | succ n =>
      have hc : txnPhase u.ctl = true := by
        obtain ⟨v, hv, hc⟩ := hrun 1 (by omega)
        cases (hshift 0).symm.trans hv
        exact hc
      obtain ⟨ie, saved⟩ := hwithin hc
      rw [← saved]
      exact ih hc (ie.trans hie) hrest fun k hk => hshift k ▸ hrun (k + 1) (by omega)

end

/-- Settles O55: a reset tick writes no IE, and each effect of the block's transition is one branch of the statement. -/
theorem interruptEnableWriters : Obligations.InterruptEnableWriters := by
  intro s t hun ht
  rcases step_cases ht with ⟨hr, rfl⟩ | ⟨hr, u, hu, rfl⟩
  · simp [hr]
  · rw [endTick_ie, ieAfter_of_ieUntouched hun, endTick_ctl]
    cases blockStep_ieEffect hu with
    | start hs hc ie => simp [hr, hs, hc, ie]
    | within hs hc ie =>
      have hne : u.ctl ≠ .postDelay := by rintro hp; simp [hp, txnPhase] at hc
      simp [hs, hne, ie]
    | finish hs hc ie => simp [hr, hs, hc, ie]
    | outside hs hc ie =>
      have hne : u.ctl ≠ .tx := by rintro hp; simp [hp, txnPhase] at hc
      simp [hs, hne, ie]

/-- Settles O43: TXN_START saves IE, and the run keeps SAVED_IE until its last step restores it. -/
theorem interruptEnablePreserved : Obligations.InterruptEnablePreserved := by
  intro s u t n hs hu htx hrun hphase
  obtain ⟨hie, hsaved⟩ := step_to_tx hs hu htx
  obtain ⟨hmasked, hend⟩ := runTicks_ie (by rw [htx]; rfl) hie hrun hphase
  rw [hsaved] at hend
  exact ⟨hmasked, hend, fun hzero h => h.elim hmasked fun hc => (hend hc).trans hzero⟩

end Sys2Proof.Machine
end

section
/-! The post delay (41_transaction.md R145, R146): its length, what it leaves, and the line after it. -/

namespace Sys2Proof.Machine

section

variable {s t u : State}

/-! ### Ticks without reset -/

theorem step_of_blockStep (h : s.noReset) (hu : blockStep s = .next u) : step s = .next (endTick s u) := by
  rw [step_of_not_rst (rstNow_of_noReset h), hu, onNext_next]

theorem exists_blockStep_of_step (h : s.noReset) (ht : step s = .next t) :
    ∃ u, blockStep s = .next u ∧ t = endTick s u := by
  rw [step_of_not_rst (rstNow_of_noReset h)] at ht
  exact onNext_eq_next.mp ht

/-- With RSPQ empty no response leaves (10_state.md R44). -/
theorem pops_of_rspq_nil (h : s.rspq = []) : s.pops = false := by
  simp [State.pops, State.rspValid, h]

theorem endTick_rspq_of_nil (h : s.rspq = []) (u : State) : (endTick s u).rspq = u.rspq := by
  rw [endTick_rspq, pops_of_rspq_nil h]
  rfl

/-- The last of `n + 1` ticks. -/
theorem runTicks_succ_of_runTicks {n : Nat} (h : runTicks n s = .next t) : runTicks (n + 1) s = step t := by
  induction n generalizing s with
  | zero =>
    cases h
    cases hs : step t <;> simp [runTicks, hs]
  | succ n ih =>
    obtain ⟨u, hu, hrest⟩ := andThen_eq_next.mp h
    rw [runTicks_succ_of_step hu, ih hrest]

/-- TIMER does not wrap below a limit of 16 bits (00_scope.md R19). -/
theorem setTimer_timer_toNat {n : Nat} (h : n ≤ 65535) (s : State) : (setTimer n s).timer.toNat = n :=
  Nat.mod_eq_of_lt (by omega)

/-! ### POST_DELAY -/

/-- The post delay goes on. -/
structure Delaying (s : State) : Prop where
  ctl : s.ctl = .postDelay
  rspq : s.rspq = []
  noReset : s.noReset
  config : s.cfg.wf = true

/-- What the post delay from `s` leaves: the response, or the classifier's turn (41_transaction.md R145). -/
structure AfterDelay (s t : State) : Prop where
  noReset : t.noReset
  dir : t.dir = s.dir
  execTxn : s.mode = .execTxn → t.ctl = .idle ∧ t.rspq = [s.rxcount.setWidth 32]
  detect : s.mode = .detect → t.ctl = .classify ∧ t.rspq = []

theorem Delaying.cmdReady (h : Delaying s) : s.cmdReady = false := by
  simp [State.cmdReady, State.ready, h.ctl]

/-- A tick of the delay before the last. -/
theorem Delaying.step_more (h : Delaying s) (hlt : s.timer.toNat + 1 < s.cfg.tPost) :
    ∃ t, step s = .next t ∧ Delaying t ∧ t.timer.toNat = s.timer.toNat + 1 ∧ t.cfg = s.cfg ∧ t.mode = s.mode ∧
      t.rxcount = s.rxcount ∧ t.dir = s.dir := by
  have hb := Config.wf_bounds h.config
  have hu : blockStep s = .next (setTimer (s.timer.toNat + 1) s) := by
    rw [blockStep_of_postDelay h.ctl, postDelayTick, if_pos hlt]
  refine ⟨_, step_of_blockStep h.noReset hu, ⟨h.ctl, ?_, noReset_endTick h.noReset _, h.config⟩, ?_, rfl, rfl, rfl, rfl⟩
  · rw [endTick_rspq_of_nil h.rspq]
    exact h.rspq
  · exact setTimer_timer_toNat (by omega) s

/-- The last tick of the delay. -/
theorem Delaying.step_last (h : Delaying s) (hend : ¬ s.timer.toNat + 1 < s.cfg.tPost) :
    ∃ t, step s = .next t ∧ AfterDelay s t := by
  have hstep := step_of_blockStep h.noReset (blockStep_of_postDelay h.ctl)
  have hrspq := endTick_rspq_of_nil h.rspq (postDelayTick s)
  refine ⟨_, hstep, ?_⟩
  rcases postDelayTick_cases s with ⟨hlt, -⟩ | ⟨-, hm, heq⟩ | ⟨-, hm, heq⟩
  · exact absurd hlt hend
  · rw [heq] at hrspq ⊢
    exact ⟨noReset_endTick h.noReset _, rfl, fun _ => ⟨rfl, by simpa [h.rspq] using hrspq⟩, by simp [hm]⟩
  · rw [heq] at hrspq ⊢
    exact ⟨noReset_endTick h.noReset _, rfl, by simp [hm], fun _ => ⟨rfl, by simp [h.rspq]⟩⟩

/-- The delay runs for the ticks that TIMER has to go. -/
theorem Delaying.runs {n : Nat} (h : Delaying s) (hpos : 0 < n) (hn : s.timer.toNat + n = s.cfg.tPost) :
    (∀ k, k < n → ∃ u, runTicks k s = .next u ∧ Delaying u ∧ u.dir = s.dir) ∧
    ∃ t, runTicks n s = .next t ∧ AfterDelay s t := by
  induction n generalizing s with
  | zero => exact absurd hpos (lt_irrefl 0)
  | succ n ih =>
    cases n with
    | zero =>
      obtain ⟨t, ht, hafter⟩ := h.step_last (by omega)
      refine ⟨fun k hk => ?_, t, (runTicks_succ_of_step ht 0), hafter⟩
      obtain rfl : k = 0 := by omega
      exact ⟨s, rfl, h, rfl⟩
    | succ n =>
      obtain ⟨t, ht, hdelay, htimer, hcfg, hmode, hcount, hdir⟩ := h.step_more (by omega)
      obtain ⟨hbefore, v, hv, hafter⟩ := ih hdelay (Nat.succ_pos n) (by rw [hcfg]; omega)
      have hrun := runTicks_succ_of_step ht
      refine ⟨fun k hk => ?_, v, (hrun _).trans hv, ?_⟩
      · cases k with
        | zero => exact ⟨s, rfl, h, rfl⟩
        | succ k =>
          obtain ⟨u, hu, hdelaying, hudir⟩ := hbefore k (by omega)
          exact ⟨u, (hrun k).trans hu, hdelaying, hudir.trans hdir⟩
      · exact ⟨hafter.noReset, hafter.dir.trans hdir, fun hm => hcount ▸ hafter.execTxn (hmode.trans hm),
          fun hm => hafter.detect (hmode.trans hm)⟩

/-- The tick after the delay leaves the line as it is: a response not yet taken keeps the block from a command, and CLASSIFY
takes none. -/
theorem AfterDelay.exists_step (h : AfterDelay s t) : ∃ u, step t = .next u ∧ u.dir = s.dir := by
  cases hm : s.mode with
  | execTxn =>
    obtain ⟨hctl, hq⟩ := h.execTxn hm
    have ha : t.accepted = none := by simp [State.accepted, State.cmdReady, State.ready, hctl, hq]
    exact ⟨_, step_of_blockStep h.noReset (blockStep_of_waiting ha (.inl hctl)), h.dir⟩
  | detect =>
    obtain ⟨hctl, -⟩ := h.detect hm
    exact ⟨_, step_of_blockStep h.noReset (blockStep_of_classify hctl), h.dir⟩

/-- With valid parameters the delay from TIMER = 0 runs for T_POST ticks. -/
theorem Delaying.runs_from_zero (h : Delaying s) (ht : s.timer = 0#16) :
    (∀ k, k < s.cfg.tPost → ∃ u, runTicks k s = .next u ∧ Delaying u ∧ u.dir = s.dir) ∧
    ∃ t, runTicks s.cfg.tPost s = .next t ∧ AfterDelay s t :=
  h.runs (Config.tPost_pos h.config) (by simp [ht])

end

/-- Settles O37: TIMER counts the delay's ticks one by one, and its last tick responds or goes to CLASSIFY. -/
theorem postDelayIsExact : Obligations.PostDelayIsExact := by
  intro s hctl ht hq hreset hcfg
  obtain ⟨hbefore, t, hrun, hafter⟩ := Delaying.runs_from_zero ⟨hctl, hq, hreset, hcfg⟩ ht
  refine ⟨fun k hk => ?_, t, hrun, hafter.execTxn, hafter.detect⟩
  obtain ⟨u, hu, hdelay, -⟩ := hbefore k hk
  exact ⟨u, hu, hdelay.ctl, hdelay.cmdReady, hdelay.rspq⟩

/-- Settles O38: the line is released right after TXN_END, and neither the delay's ticks nor the tick after them drive it. -/
theorem spacingOfTransactions : Obligations.SpacingOfTransactions := by
  intro s n hinv hctl ht hreset hn
  have hdir : s.dir = false :=
    hinv.line.released (by rw [hctl]; rfl) (hinv.initialised (by simp [hctl]) (by simp [hctl]))
  have hdelay : Delaying s := ⟨hctl, hinv.drained (by simp [hctl]), hreset, hinv.config⟩
  obtain ⟨hbefore, t, hrun, hafter⟩ := hdelay.runs_from_zero ht
  rw [← hdir]
  rcases lt_trichotomy n s.cfg.tPost with hlt | rfl | hgt
  · obtain ⟨u, hu, -, hudir⟩ := hbefore n hlt
    exact ⟨u, hu, hudir⟩
  · exact ⟨t, hrun, hafter.dir⟩
  · obtain rfl : n = s.cfg.tPost + 1 := by omega
    rw [runTicks_succ_of_runTicks hrun]
    exact hafter.exists_step

end Sys2Proof.Machine
end

section
/-! The bound on a transaction (41_transaction.md R148): a number of ticks left, at the start at most the bound, of which every
tick takes one. -/

namespace Sys2Proof.Machine

section

variable {s t u : State}

/-! ### The ticks a transaction has left at most -/

/-- The ticks of the bits still to come, each at most T_GAP from its edge (41_transaction.md R148). -/
def State.bitsLeft (s : State) : Nat := (Config.nbitsMax - s.nbits.toNat) * s.cfg.tGap

/-- The ticks left until IDLE, at most. In RX_BIT the bit being received is one of those to come, and TIMER runs from its edge. -/
def State.ticksLeft (s : State) : Nat :=
  match s.ctl with
  | .tx | .txStop => s.frameLeft + (s.cfg.tRxTimeout + s.bitsLeft + s.cfg.tPost + 1)
  | .rxWait => s.cfg.tRxTimeout - s.timer.toNat + (s.bitsLeft + s.cfg.tPost + 1)
  | .rxBit => s.bitsLeft - s.timer.toNat + (s.cfg.tPost + 1)
  | .rxGap => s.cfg.tGap - s.timer.toNat + (s.bitsLeft + s.cfg.tPost + 1)
  | .postDelay => s.cfg.tPost - s.timer.toNat + 1
  | .classify => 1
  | .idle | .load | .faulted => 0

/-- A transaction goes on, from TXN_START to its response. -/
structure Transacting (s : State) : Prop where
  inv : BlockInv s
  noReset : s.noReset
  ctl : txnPhase s.ctl = true ∨ s.ctl = .postDelay ∨ s.ctl = .classify

/-- Room for one more bit is room for T_GAP ticks. -/
theorem BlockInv.tGap_le_bitsLeft (h : BlockInv s) (hctl : txnPhase s.ctl = true) : s.cfg.tGap ≤ s.bitsLeft :=
  Nat.le_mul_of_pos_left _ (Nat.sub_pos_of_lt (h.counting hctl))

theorem bitsLeft_packBit (hbits : s.nbits.toNat < Config.nbitsMax) (b : Bool) :
    (packBit b s).bitsLeft = s.bitsLeft - s.cfg.tGap := by
  have hmax : Config.nbitsMax = 322 := rfl
  have hnext : (BitVec.ofNat 16 (s.nbits.toNat + 1)).toNat = s.nbits.toNat + 1 := Nat.mod_eq_of_lt (by omega)
  rw [packBit_eq]
  simp only [State.bitsLeft, hnext, ← Nat.sub_sub, Nat.sub_mul _ 1, one_mul]

/-! ### Every tick takes one -/

theorem ticksLeft_of_transmitter (hctl : s.ctl = .tx ∨ s.ctl = .txStop) :
    s.ticksLeft = s.frameLeft + (s.cfg.tRxTimeout + s.bitsLeft + s.cfg.tPost + 1) := by
  rcases hctl with hctl | hctl <;> simp [State.ticksLeft, hctl]

theorem ticksLeft_of_rxWait (hctl : s.ctl = .rxWait) :
    s.ticksLeft = s.cfg.tRxTimeout - s.timer.toNat + (s.bitsLeft + s.cfg.tPost + 1) := by
  simp [State.ticksLeft, hctl]

theorem ticksLeft_of_rxBit (hctl : s.ctl = .rxBit) :
    s.ticksLeft = s.bitsLeft - s.timer.toNat + (s.cfg.tPost + 1) := by
  simp [State.ticksLeft, hctl]

theorem ticksLeft_of_rxGap (hctl : s.ctl = .rxGap) :
    s.ticksLeft = s.cfg.tGap - s.timer.toNat + (s.bitsLeft + s.cfg.tPost + 1) := by
  simp [State.ticksLeft, hctl]

theorem ticksLeft_of_postDelay (hctl : s.ctl = .postDelay) : s.ticksLeft = s.cfg.tPost - s.timer.toNat + 1 := by
  simp [State.ticksLeft, hctl]

/-- An edge in the receiver leaves the bits to come. -/
theorem ticksLeft_startBit (s : State) :
    { setTimer 0 (recordLine s) with ctl := .rxBit }.ticksLeft = s.bitsLeft + (s.cfg.tPost + 1) := rfl

/-- The end of a transaction leaves the post delay. -/
theorem ticksLeft_txnEnd (rc : Byte) (s : State) : (txnEnd rc s).ticksLeft = s.cfg.tPost + 1 := rfl

/-- A tick that only counts. -/
theorem BlockInv.ticksLeft_setTimer (h : BlockInv s)
    (hctl : s.ctl = .txStop ∨ s.ctl = .rxWait ∨ s.ctl = .rxBit ∨ s.ctl = .rxGap ∨ s.ctl = .postDelay)
    (hlt : s.timer.toNat + 1 < timerLimit s) : (setTimer (s.timer.toNat + 1) s).ticksLeft < s.ticksLeft := by
  have hb := Config.wf_bounds h.config
  have hle := timerLimit_le h.config
  have htimer := setTimer_timer_toNat (n := s.timer.toNat + 1) (by omega) s
  have hbits : (setTimer (s.timer.toNat + 1) s).bitsLeft = s.bitsLeft := rfl
  rcases hctl with hctl | hctl | hctl | hctl | hctl <;> simp only [timerLimit, hctl] at hlt
  · have hleft := h.frameLeft_setTimer (by simpa [timerLimit, hctl] using hlt)
    rw [ticksLeft_of_transmitter (.inr hctl), ticksLeft_of_transmitter (s := setTimer _ s) (.inr hctl), hbits, setTimer_cfg]
    omega
  · rw [ticksLeft_of_rxWait hctl, ticksLeft_of_rxWait (s := setTimer _ s) hctl, htimer, hbits, setTimer_cfg]
    omega
  · have hroom := h.tGap_le_bitsLeft (by rw [hctl]; rfl)
    rw [ticksLeft_of_rxBit hctl, ticksLeft_of_rxBit (s := setTimer _ s) hctl, htimer, hbits, setTimer_cfg]
    omega
  · rw [ticksLeft_of_rxGap hctl, ticksLeft_of_rxGap (s := setTimer _ s) hctl, htimer, hbits, setTimer_cfg]
    omega
  · rw [ticksLeft_of_postDelay hctl, ticksLeft_of_postDelay (s := setTimer _ s) hctl, htimer, setTimer_cfg]
    omega

theorem BlockInv.ticksLeft_txAdvance (h : BlockInv s) (hctl : s.ctl = .tx) : (txAdvance s).ticksLeft < s.ticksLeft := by
  have hleft := h.frameLeft_txAdvance hctl
  have hsame : (txAdvance s).cfg = s.cfg ∧ (txAdvance s).bitsLeft = s.bitsLeft := by
    obtain ⟨c, p, b, x, d, tm, heq⟩ := txAdvance_frame s
    rw [heq]
    exact ⟨rfl, rfl⟩
  rw [ticksLeft_of_transmitter (txAdvance_ctl hctl), ticksLeft_of_transmitter (.inl hctl), hsame.1, hsame.2]
  omega

theorem BlockInv.ticksLeft_txStopTick (h : BlockInv s) (hctl : s.ctl = .txStop) :
    (txStopTick s).ticksLeft < s.ticksLeft := by
  rcases txStopTick_cases s with ⟨hlt, heq⟩ | ⟨-, heq⟩ <;> rw [heq]
  · exact h.ticksLeft_setTimer (.inl hctl) (by simpa [timerLimit, hctl] using hlt)
  · have hpos := h.frameLeft_pos
    rw [ticksLeft_of_transmitter (.inr hctl), ticksLeft_of_rxWait rfl]
    simp only [State.bitsLeft, setTimer_cfg, setTimer_timer, setTimer_nbits, BitVec.toNat_ofNat]
    omega

theorem BlockInv.ticksLeft_rxWaitTick (h : BlockInv s) (hctl : s.ctl = .rxWait) :
    (rxWaitTick s).ticksLeft < s.ticksLeft := by
  have htime : s.timer.toNat < s.cfg.tRxTimeout := by simpa [timerLimit, hctl] using h.timing
  rcases rxWaitTick_cases s with ⟨-, heq⟩ | ⟨-, hlt, heq⟩ | ⟨-, -, heq⟩ <;> rw [heq]
  · rw [ticksLeft_startBit, ticksLeft_of_rxWait hctl]
    omega
  · exact h.after_recordLine.ticksLeft_setTimer (.inr (.inl hctl))
      (by simpa [timerLimit, hctl] using hlt)
  · rw [ticksLeft_txnEnd, ticksLeft_of_rxWait hctl, recordLine_cfg]
    omega

theorem BlockInv.ticksLeft_rxGapTick (h : BlockInv s) (hctl : s.ctl = .rxGap) :
    (rxGapTick s).ticksLeft < s.ticksLeft := by
  have htime : s.timer.toNat < s.cfg.tGap := by simpa [timerLimit, hctl] using h.timing
  rcases rxGapTick_cases s with ⟨-, heq⟩ | ⟨-, hlt, heq⟩ | ⟨-, -, heq⟩ <;> rw [heq]
  · rw [ticksLeft_startBit, ticksLeft_of_rxGap hctl]
    omega
  · exact h.after_recordLine.ticksLeft_setTimer (.inr (.inr (.inr (.inl hctl))))
      (by simpa [timerLimit, hctl] using hlt)
  · rw [ticksLeft_txnEnd, ticksLeft_of_rxGap hctl, recordLine_cfg]
    omega

/-- The sample takes its bit from those to come; what its T_GAP ticks have left is the gap's. -/
theorem BlockInv.ticksLeft_rxBitTick (h : BlockInv s) (hctl : s.ctl = .rxBit) :
    (rxBitTick s).ticksLeft < s.ticksLeft := by
  have hb := Config.wf_bounds h.config
  have hphase : txnPhase s.ctl = true := by rw [hctl]; rfl
  have htime : s.timer.toNat < s.cfg.tSample := by simpa [timerLimit, hctl] using h.timing
  have hroom := h.tGap_le_bitsLeft hphase
  have hpack := bitsLeft_packBit (s := setTimer (s.timer.toNat + 1) (recordLine s)) (h.counting hphase) s.line
  have hsampled : (setTimer (s.timer.toNat + 1) (recordLine s)).bitsLeft = s.bitsLeft := rfl
  rw [hsampled, setTimer_cfg, recordLine_cfg] at hpack
  rcases rxBitTick_cases s with ⟨hne, heq⟩ | ⟨-, -, heq⟩ | ⟨-, -, heq⟩ <;> rw [heq]
  · exact h.after_recordLine.ticksLeft_setTimer (.inr (.inr (.inl hctl)))
      (by simp only [timerLimit, recordLine_ctl, hctl, recordLine_timer, recordLine_cfg]; omega)
  · have htimer := setTimer_timer_toNat (n := s.timer.toNat + 1) (by omega) (recordLine s)
    have hgap : { packBit s.line (setTimer (s.timer.toNat + 1) (recordLine s)) with ctl := .rxGap }.ticksLeft =
        s.cfg.tGap - (setTimer (s.timer.toNat + 1) (recordLine s)).timer.toNat +
          ((packBit s.line (setTimer (s.timer.toNat + 1) (recordLine s))).bitsLeft + s.cfg.tPost + 1) := by
      rw [packBit_eq]
      rfl
    rw [hgap, hpack, htimer, ticksLeft_of_rxBit hctl]
    omega
  · rw [ticksLeft_txnEnd, packBit_eq, ticksLeft_of_rxBit hctl]
    simp only [setTimer_cfg, recordLine_cfg]
    omega

theorem BlockInv.ticksLeft_postDelayTick (h : BlockInv s) (hctl : s.ctl = .postDelay) :
    (postDelayTick s).ticksLeft < s.ticksLeft := by
  have htime : s.timer.toNat < s.cfg.tPost := by simpa [timerLimit, hctl] using h.timing
  rcases postDelayTick_cases s with ⟨hlt, heq⟩ | ⟨-, -, heq⟩ | ⟨-, -, heq⟩ <;> rw [heq]
  · exact h.ticksLeft_setTimer (.inr (.inr (.inr (.inr hctl))))
      (by simpa [timerLimit, hctl] using hlt)
  · rw [ticksLeft_of_postDelay hctl]
    exact Nat.succ_pos _
  · rw [ticksLeft_of_postDelay hctl]
    exact Nat.succ_lt_succ (Nat.sub_pos_of_lt htime)

theorem BlockInv.exists_blockStep_of_txnPhase (h : BlockInv s) (hphase : txnPhase s.ctl = true) :
    ∃ u, blockStep s = .next u ∧ u.ticksLeft < s.ticksLeft := by
  cases hctl : s.ctl with
  | tx =>
    have hcap := (h.sending hctl).trans_le (h.length (.inr hctl))
    exact ⟨_, blockStep_of_tx hctl hcap, h.ticksLeft_txAdvance hctl⟩
  | txStop => exact ⟨_, blockStep_of_txStop hctl, h.ticksLeft_txStopTick hctl⟩
  | rxWait => exact ⟨_, blockStep_of_rxWait hctl, h.ticksLeft_rxWaitTick hctl⟩
  | rxBit => exact ⟨_, blockStep_of_rxBit hctl, h.ticksLeft_rxBitTick hctl⟩
  | rxGap => exact ⟨_, blockStep_of_rxGap hctl, h.ticksLeft_rxGapTick hctl⟩
  | idle | load | postDelay | classify | faulted => simp [hctl, txnPhase] at hphase

/-- The block's transition goes on with the transaction or responds. -/
theorem Transacting.exists_blockStep (h : Transacting s) : ∃ u, blockStep s = .next u ∧ u.ticksLeft < s.ticksLeft ∧
    (u.ctl = .idle ∨ txnPhase u.ctl = true ∨ u.ctl = .postDelay ∨ u.ctl = .classify) := by
  rcases h.ctl with hphase | hctl | hctl
  · obtain ⟨u, hu, hless⟩ := h.inv.exists_blockStep_of_txnPhase hphase
    refine ⟨u, hu, hless, ?_⟩
    cases blockStep_ieEffect hu with
    | start hn | outside hn => simp [hphase] at hn
    | within _ hc => exact .inr (.inl hc)
    | finish _ hc => exact .inr (.inr (.inl hc))
  · refine ⟨_, blockStep_of_postDelay hctl, h.inv.ticksLeft_postDelayTick hctl, ?_⟩
    rw [postDelayTick_ctl hctl]
    split_ifs <;> simp
  · refine ⟨_, blockStep_of_classify hctl, ?_, .inl rfl⟩
    simp [State.ticksLeft, hctl, classifyTick]

/-- The tick's end leaves the registers that the ticks left are read off. -/
theorem ticksLeft_endTick (s u : State) : (endTick s u).ticksLeft = u.ticksLeft := rfl

theorem Transacting.exists_step (h : Transacting s) : ∃ t, step s = .next t ∧ t.ticksLeft < s.ticksLeft ∧
    (t.ctl = .idle ∨ Transacting t) := by
  obtain ⟨u, hu, hless, hctl⟩ := h.exists_blockStep
  have hstep := step_of_blockStep h.noReset hu
  exact ⟨_, hstep, (ticksLeft_endTick s u).trans_lt hless, hctl.imp_right fun hc =>
    ⟨h.inv.after_step hstep, noReset_endTick h.noReset u, hc⟩⟩

/-! ### The run -/

theorem runToIdle_of_idle (h : s.ctl = .idle) (n : Nat) : runToIdle n s = .next s := by
  cases n with
  | zero => rfl
  | succ n => rw [runToIdle, if_pos h]

theorem runToIdle_succ_of_step (hctl : s.ctl ≠ .idle) (h : step s = .next t) (n : Nat) :
    runToIdle (n + 1) s = runToIdle n t := by
  rw [runToIdle, if_neg hctl, h, andThen_next]

theorem Transacting.ctl_ne_idle (h : Transacting s) : s.ctl ≠ .idle := by
  rintro hi
  simpa [hi, txnPhase] using h.ctl

theorem Transacting.runs_to_idle {n : Nat} (h : Transacting s) (hn : s.ticksLeft ≤ n) :
    ∃ t, runToIdle n s = .next t ∧ t.ctl = .idle := by
  induction n generalizing s with
  | zero =>
    obtain ⟨t, -, hless, -⟩ := h.exists_step
    omega
  | succ n ih =>
    obtain ⟨t, ht, hless, hcase⟩ := h.exists_step
    rw [runToIdle_succ_of_step h.ctl_ne_idle ht]
    rcases hcase with hidle | hnext
    · exact ⟨t, runToIdle_of_idle hidle n, hidle⟩
    · exact ih hnext (by omega)

/-! ### The bound (41_transaction.md R148) -/

/-- The longer of the two bit cells. -/
def cellMax (c : Config) : Nat := max (c.t0Low + c.t0High) (c.t1Low + c.t1High)

theorem bitTicks_le (c : Config) (b : Bool) : bitTicks c b ≤ cellMax c := by
  cases b
  · exact le_max_left _ _
  · exact le_max_right _ _

theorem bitsTicks_le (c : Config) (v : Byte) (n : Nat) : bitsTicks c v n ≤ n * cellMax c := by
  induction n with
  | zero => exact Nat.zero_le _
  | succ n ih =>
    have hbit := bitTicks_le c (v.getLsbD n)
    rw [bitsTicks, Nat.succ_mul]
    omega

theorem frameTicks_le (c : Config) (bytes : List Byte) :
    frameTicks c bytes ≤ 8 * bytes.length * cellMax c + c.tstopLow := by
  have hbytes : (bytes.map fun v => bitsTicks c v 8).sum ≤ bytes.length * (8 * cellMax c) := by
    have hsum := List.sum_le_card_nsmul (bytes.map fun v => bitsTicks c v 8) (8 * cellMax c)
      (by simpa using fun v _ => bitsTicks_le c v 8)
    simpa using hsum
  have hmul : 8 * bytes.length * cellMax c = bytes.length * (8 * cellMax c) := by ring
  rw [frameTicks, hmul]
  omega

theorem ticksLeft_of_txnStart (h : AtTxnStart s) (hlen : 0 < s.txlen.toNat) :
    s.ticksLeft ≤ txnTicksBound s.cfg s.txlen.toNat := by
  have hframe := frameTicks_le s.cfg (s.txbuf.readList 0 s.txlen.toNat)
  rw [Memory.readList_length, ← frameLeft_of_txnStart h hlen] at hframe
  have hbits : s.bitsLeft = Config.nbitsMax * s.cfg.tGap := by simp [State.bitsLeft, h.nbits]
  have hbound : txnTicksBound s.cfg s.txlen.toNat = 8 * s.txlen.toNat * cellMax s.cfg + s.cfg.tstopLow +
      s.cfg.tRxTimeout + Config.nbitsMax * s.cfg.tGap + s.cfg.tPost + 2 := rfl
  rw [ticksLeft_of_transmitter (.inl h.ctl), hbits, hbound]
  omega

end

/-- Settles O40: at TXN_START at most the bound is left, and every tick of the transaction takes one. -/
theorem transactionTerminates : Obligations.TransactionTerminates := by
  intro s hinv hstart hreset
  have htx : Transacting s := ⟨hinv, hreset, .inl (by rw [hstart.ctl]; rfl)⟩
  exact htx.runs_to_idle (ticksLeft_of_txnStart hstart (Nat.zero_lt_of_lt (hinv.sending hstart.ctl)))

end Sys2Proof.Machine
end

section
/-! Level T abstracts Level L (41_transaction.md R150, R151): what a state between TXN_START and IDLE has kept of the state at
TXN_START, from tick to tick up to the Level T transaction. -/

namespace Sys2Proof.Machine

section

variable {s t u w : State} {o : TxnOutcome}

/-! ### What is kept of TXN_START -/

/-- The registers that Level T leaves unspecified, as a state has them (41_transaction.md R151). -/
def State.scratch (u : State) : ScratchDraws where
  timer := u.timer
  txidx := u.txidx
  bitidx := u.bitidx
  phase := u.phase
  nbits := u.nbits
  shift := u.shift
  prev := u.prev
  loadcnt := u.loadcnt
  wbufAfterError := u.wbuf

/-- An outcome that Level L can come to from `s`: legal, and Timeout where no device is attached (41_transaction.md R150). -/
def PossibleOutcome (s : State) (o : TxnOutcome) : Prop := outcomeLegal o = true ∧ (s.noDevice → o = .timeout)

/-- Bits of the reply are coming in: there was an edge. -/
def inBits (c : Ctl) : Prop := c = .rxBit ∨ c = .rxGap

/-- WBUF holds the whole bytes of the reply so far, written over `m` from address 0 up (42_buffer.md R170). -/
def HoldsReply (m : Memory) (u : State) : Prop :=
  ∃ r : List Byte, r.length = u.nbits.toNat / 8 ∧ u.wbuf = m.writeList 0 r

/-- `u` is in the transaction that `s` starts, before its end: the frame goes out or the reply comes in. -/
structure InTransaction (s u : State) : Prop where
  ctl : txnPhase u.ctl = true
  registers : u.outsideOf s = { scramble u.scratch s with ctl := u.ctl, dir := u.dir, wbuf := u.wbuf }
  reply : HoldsReply s.wbuf u
  /-- No bit comes before the first edge. -/
  silent : ¬ inBits u.ctl → u.nbits = 0#16
  /-- Without a device no edge comes. -/
  noDevice : s.noDevice → u.noDevice ∧ ¬ inBits u.ctl

/-- The state of Level T right after TXN_END, with what it leaves unspecified as `u` has it. -/
def endedAs (o : TxnOutcome) (s u : State) : State :=
  scramble u.scratch (txnEnd (outcomeRc o) { release s with wbuf := outcomeWbuf o u.scratch s.wbuf })

/-- `u` is past the end of the transaction that `s` started, with the outcome `o`, and has not responded yet. -/
structure AfterTxnEnd (s : State) (o : TxnOutcome) (u : State) : Prop where
  ctl : u.ctl = .postDelay ∨ (u.ctl = .classify ∧ u.mode = .detect)
  registers : u.outsideOf s = { endedAs o s u with ctl := u.ctl }

/-- The host and the reset input keep to what Level T assumes of them, in a state that meets the invariant. -/
structure Undisturbed (u : State) : Prop where
  inv : BlockInv u
  noReset : u.noReset
  ieUntouched : u.ieUntouched

theorem ieUntouched_endTick (h : u.ieUntouched) (w : State) : (endTick u w).ieUntouched := by
  intro v hv
  have hmem : v ∈ if txnPhase u.ctl then u.host.ieWrite else u.host.ieWrite.tail := hv
  split at hmem
  · exact h v hmem
  · exact h v (List.mem_of_mem_tail hmem)

theorem noDevice_endTick (h : u.noDevice) (w : State) : (endTick u w).noDevice := by
  have habsent : u.bus = .absent := h
  have hafter : (endTick u w).bus = busAfter u.bus := rfl
  rw [State.noDevice, hafter, habsent]
  rfl

theorem Undisturbed.after_step (h : Undisturbed u) (ht : step u = .next t) : Undisturbed t := by
  obtain ⟨w, -, rfl⟩ := exists_blockStep_of_step h.noReset ht
  exact ⟨h.inv.after_step ht, noReset_endTick h.noReset w, ieUntouched_endTick h.ieUntouched w⟩

/-- Outside IDLE the tick's end leaves every register of the block. -/
theorem Undisturbed.outsideOf_endTick (h : Undisturbed u) (hctl : u.ctl ≠ .idle) (w s : State) :
    (endTick u w).outsideOf s = w.outsideOf s := by
  have hq := endTick_rspq_of_nil (h.inv.drained hctl) w
  have hie := ieAfter_of_ieUntouched h.ieUntouched w
  simp only [State.outsideOf, endTick_ie, hie, hq]
  rfl

/-! ### TXN_START -/

theorem inTransaction_of_txnStart (h : AtTxnStart s) : InTransaction s s where
  ctl := by rw [h.ctl]; rfl
  registers := rfl
  reply := ⟨[], by simp [h.nbits], rfl⟩
  silent := fun _ => h.nbits
  noDevice := fun hno => ⟨hno, by simp [inBits, h.ctl]⟩

/-! ### The end of the transaction -/

/-- TXN_END after the receiver's writes `v` is the end at Level T, if its outcome accounts for WBUF. -/
theorem InTransaction.ends (h : InTransaction s u) (hdir : u.dir = false) {v : State}
    (hv : v = { u with timer := v.timer, prev := v.prev, nbits := v.nbits, shift := v.shift, wbuf := v.wbuf })
    (hwbuf : outcomeWbuf o v.scratch s.wbuf = v.wbuf) : AfterTxnEnd s o (txnEnd (outcomeRc o) v) := by
  have hreg := h.registers
  rw [hdir] at hreg
  have hend : (txnEnd (outcomeRc o) v).outsideOf s = txnEnd (outcomeRc o)
      { u.outsideOf s with prev := v.prev, nbits := v.nbits, shift := v.shift, wbuf := v.wbuf } := by
    rw [hv]
    rfl
  have hdraws : outcomeWbuf o (txnEnd (outcomeRc o) v).scratch s.wbuf = v.wbuf := by rw [← hwbuf]; cases o <;> rfl
  refine ⟨.inl rfl, ?_⟩
  rw [hend, hreg, endedAs, hdraws, hv]
  rfl

/-- The tick's end of TXN_END's tick, and of the ticks after it. -/
theorem AfterTxnEnd.after_endTick (h : AfterTxnEnd s o w) (hd : Undisturbed u) (hctl : u.ctl ≠ .idle) :
    AfterTxnEnd s o (endTick u w) :=
  ⟨h.ctl, (hd.outsideOf_endTick hctl w s).trans h.registers⟩

/-! ### The ticks of the transaction -/

/-- Within the transaction the block writes only what Level T leaves unspecified, the line and WBUF. -/
theorem InTransaction.registers_after (h : InTransaction s u) (hw : blockStep u = .next w) (hc : txnPhase w.ctl = true) :
    w.outsideOf s = { scramble w.scratch s with ctl := w.ctl, dir := w.dir, wbuf := w.wbuf } := by
  have hctl := h.ctl
  have hreg := h.registers
  cases blockStep_effect hw with
  | stay | tx | txStop | receive => simpa [State.outsideOf, scramble, State.scratch] using hreg
  | receiveEnd => simp [txnPhase] at hc
  | fault _ hs | start _ hs => rcases hs with hs | hs <;> simp [hs, txnPhase] at hctl
  | initLine _ hs | header _ hs | read _ _ hs | store _ hs | postDelay _ hs | classify _ hs => simp [hs, txnPhase] at hctl

/-- A tick within the transaction. -/
theorem InTransaction.goes_on (h : InTransaction s u) (hd : Undisturbed u) (hw : blockStep u = .next w)
    (hc : txnPhase w.ctl = true) (hreply : HoldsReply s.wbuf w) (hsilent : ¬ inBits w.ctl → w.nbits = 0#16)
    (hno : s.noDevice → ¬ inBits w.ctl) : InTransaction s (endTick u w) where
  ctl := hc
  registers := by
    have hne : u.ctl ≠ .idle := by rintro hi; simpa [hi, txnPhase] using h.ctl
    rw [hd.outsideOf_endTick hne, h.registers_after hw hc]
    rfl
  reply := hreply
  silent := hsilent
  noDevice := fun hn => ⟨noDevice_endTick (h.noDevice hn).1 w, hno hn⟩

/-- PACK_BIT adds a byte to the reply where it completes one (42_buffer.md R170). -/
theorem HoldsReply.after_packBit {m : Memory} (h : HoldsReply m u) (hbits : u.nbits.toNat < Config.nbitsMax) (b : Bool) :
    HoldsReply m (packBit b u) := by
  have hmax : Config.nbitsMax = 322 := rfl
  have hcap : Config.bufCap = 40 := rfl
  have hnext : (packBit b u).nbits.toNat = u.nbits.toNat + 1 := by
    rw [packBit_eq]
    exact Nat.mod_eq_of_lt (by omega)
  obtain ⟨r, hlen, hw⟩ := h
  rw [HoldsReply, packBit_wbuf, hnext]
  split
  · next hbyte =>
    have hidx : (u.nbits.toNat + 1) / 8 - 1 = 0 + r.length := by omega
    refine ⟨r ++ [shiftIn u.shift b], ?_, ?_⟩
    · rw [List.length_append, List.length_singleton]
      omega
    · rw [Memory.writeList_snoc, ← hw, hidx]
  · next hbyte => exact ⟨r, by omega, hw⟩

/-- A tick that takes no bit. -/
theorem InTransaction.goes_on_without_bit (h : InTransaction s u) (hd : Undisturbed u) (hw : blockStep u = .next w)
    (hc : txnPhase w.ctl = true) (hbits : w.nbits = u.nbits) (hwbuf : w.wbuf = u.wbuf)
    (hstay : inBits u.ctl → inBits w.ctl) (hno : s.noDevice → ¬ inBits w.ctl) : InTransaction s (endTick u w) :=
  have hreply : HoldsReply s.wbuf w := by
    rw [HoldsReply, hbits, hwbuf]
    exact h.reply
  h.goes_on hd hw hc hreply (fun hn => hbits.trans (h.silent fun hb => hn (hstay hb))) hno

/-- Without a device the released line is high (40_line_controller.md R103). -/
theorem edge_of_noDevice (h : u.noDevice) (hdir : u.dir = false) : u.edge = false := by
  have hline : u.line = true := by
    rw [line_of_not_driven_high (by simp [hdir]), hdir, devLow_of_noDevice h]
    rfl
  exact edge_eq_false_iff.mpr (.inr hline)

/-- What one tick makes of a transaction. -/
def GoesOnOrEnds (s t : State) : Prop :=
  InTransaction s t ∨ ∃ o, PossibleOutcome s o ∧ AfterTxnEnd s o t

theorem InTransaction.after_tx (h : InTransaction s u) (hd : Undisturbed u) (hctl : u.ctl = .tx)
    (hw : blockStep u = .next w) : InTransaction s (endTick u w) := by
  have heq := blockStep_eq_of_tx hctl hw
  have hc := txAdvance_ctl hctl
  obtain ⟨c, p, b, x, d, tm, hframe⟩ := txAdvance_frame u
  rw [← heq] at hc hframe
  refine h.goes_on_without_bit hd hw ?_ (by rw [hframe]) (by rw [hframe]) (by simp [inBits, hctl]) fun _ => ?_
  · rcases hc with hc | hc <;> rw [hc] <;> rfl
  · rcases hc with hc | hc <;> simp [inBits, hc]

theorem InTransaction.after_txStop (h : InTransaction s u) (hd : Undisturbed u) (hctl : u.ctl = .txStop) :
    InTransaction s (endTick u (txStopTick u)) := by
  have hw := blockStep_of_txStop hctl
  rcases txStopTick_cases u with ⟨-, heq⟩ | ⟨-, heq⟩ <;> rw [heq] at hw ⊢
  · exact h.goes_on_without_bit hd hw h.ctl rfl rfl id (by simp [inBits, hctl])
  · exact h.goes_on_without_bit hd hw rfl rfl rfl (by simp [inBits, hctl]) (by simp [inBits])

theorem InTransaction.after_rxWait (h : InTransaction s u) (hd : Undisturbed u) (hctl : u.ctl = .rxWait) :
    GoesOnOrEnds s (endTick u (rxWaitTick u)) := by
  have hw := blockStep_of_rxWait hctl
  have hdir : u.dir = false := hd.inv.listening (by rw [hctl]; rfl)
  have hbits := h.silent (by simp [inBits, hctl])
  rcases rxWaitTick_cases u with ⟨he, heq⟩ | ⟨-, -, heq⟩ | ⟨-, -, heq⟩ <;> rw [heq] at hw ⊢
  · have hno : ¬ s.noDevice := fun hn => by simp [edge_of_noDevice (h.noDevice hn).1 hdir] at he
    exact .inl (h.goes_on_without_bit hd hw rfl rfl rfl (by simp [inBits]) fun hn => absurd hn hno)
  · exact .inl (h.goes_on_without_bit hd hw h.ctl rfl rfl id (by simp [inBits, hctl]))
  · refine .inr ⟨.timeout, ⟨rfl, fun _ => rfl⟩, AfterTxnEnd.after_endTick ?_ hd (by simp [hctl])⟩
    obtain ⟨r, hlen, hwbuf⟩ := h.reply
    obtain rfl : r = [] := by simpa [hbits] using hlen
    exact h.ends (o := .timeout) (v := recordLine u) hdir rfl hwbuf.symm

theorem InTransaction.after_rxBit (h : InTransaction s u) (hd : Undisturbed u) (hctl : u.ctl = .rxBit) :
    GoesOnOrEnds s (endTick u (rxBitTick u)) := by
  have hw := blockStep_of_rxBit hctl
  have hdir : u.dir = false := hd.inv.listening (by rw [hctl]; rfl)
  have hbits := hd.inv.counting h.ctl
  have hno : ¬ s.noDevice := fun hn => (h.noDevice hn).2 (.inl hctl)
  rcases rxBitTick_cases u with ⟨-, heq⟩ | ⟨-, -, heq⟩ | ⟨-, -, heq⟩ <;> rw [heq] at hw ⊢
  · exact .inl (h.goes_on_without_bit hd hw h.ctl rfl rfl id fun hn => absurd hn hno)
  · have hreply := HoldsReply.after_packBit (u := setTimer (u.timer.toNat + 1) (recordLine u)) h.reply hbits u.line
    exact .inl (h.goes_on hd hw rfl hreply (absurd (.inr rfl)) fun hn => absurd hn hno)
  · refine .inr ⟨.lineError, ⟨rfl, fun hn => absurd hn hno⟩, AfterTxnEnd.after_endTick ?_ hd (by simp [hctl])⟩
    exact h.ends (o := .lineError) hdir (by rw [packBit_eq]; rfl) rfl

theorem outcomeLegal_ok_iff {r : List Byte} :
    outcomeLegal (.ok r) = true ↔ 1 ≤ r.length ∧ r.length ≤ Config.bufCap := by
  simp [outcomeLegal]

/-- The framing check accepts the whole bytes of the reply, or it is a line error (41_transaction.md R141, R150). -/
theorem rxOutcome_eq_outcomeRc {n : Nat} {r : List Byte} (hlen : r.length = n / 8) :
    (outcomeLegal (.ok r) = true ∧ rxOutcome n = outcomeRc (.ok r)) ∨ rxOutcome n = outcomeRc .lineError := by
  by_cases hbytes : ∃ m, 1 ≤ m ∧ m ≤ Config.bufCap ∧ n = 8 * m + 1
  · obtain ⟨m, h1, h40, rfl⟩ := hbytes
    obtain rfl : r.length = m := by omega
    exact .inl ⟨outcomeLegal_ok_iff.mpr ⟨h1, h40⟩, rxOutcome_of_bytes h1 h40⟩
  · exact .inr (rxOutcome_of_not_bytes hbytes)

theorem InTransaction.after_rxGap (h : InTransaction s u) (hd : Undisturbed u) (hctl : u.ctl = .rxGap) :
    GoesOnOrEnds s (endTick u (rxGapTick u)) := by
  have hw := blockStep_of_rxGap hctl
  have hdir : u.dir = false := hd.inv.listening (by rw [hctl]; rfl)
  have hno : ¬ s.noDevice := fun hn => (h.noDevice hn).2 (.inr hctl)
  rcases rxGapTick_cases u with ⟨-, heq⟩ | ⟨-, -, heq⟩ | ⟨-, -, heq⟩ <;> rw [heq] at hw ⊢
  · exact .inl (h.goes_on_without_bit hd hw rfl rfl rfl (by simp [inBits]) fun hn => absurd hn hno)
  · exact .inl (h.goes_on_without_bit hd hw h.ctl rfl rfl id fun hn => absurd hn hno)
  · obtain ⟨r, hlen, hwbuf⟩ := h.reply
    rcases rxOutcome_eq_outcomeRc hlen with ⟨hlegal, hrc⟩ | hrc <;> rw [hrc]
    · refine .inr ⟨.ok r, ⟨hlegal, fun hn => absurd hn hno⟩, AfterTxnEnd.after_endTick ?_ hd (by simp [hctl])⟩
      exact h.ends (o := .ok r) (v := recordLine u) hdir rfl hwbuf.symm
    · refine .inr ⟨.lineError, ⟨rfl, fun hn => absurd hn hno⟩, AfterTxnEnd.after_endTick ?_ hd (by simp [hctl])⟩
      exact h.ends (o := .lineError) (v := recordLine u) hdir rfl rfl

theorem InTransaction.after_step (h : InTransaction s u) (hd : Undisturbed u) (ht : step u = .next t) :
    GoesOnOrEnds s t := by
  obtain ⟨w, hw, rfl⟩ := exists_blockStep_of_step hd.noReset ht
  cases hctl : u.ctl with
  | tx => exact .inl (h.after_tx hd hctl hw)
  | txStop =>
    cases (blockStep_of_txStop hctl).symm.trans hw
    exact .inl (h.after_txStop hd hctl)
  | rxWait =>
    cases (blockStep_of_rxWait hctl).symm.trans hw
    exact h.after_rxWait hd hctl
  | rxBit =>
    cases (blockStep_of_rxBit hctl).symm.trans hw
    exact h.after_rxBit hd hctl
  | rxGap =>
    cases (blockStep_of_rxGap hctl).symm.trans hw
    exact h.after_rxGap hd hctl
  | idle | load | postDelay | classify | faulted => simpa [hctl, txnPhase] using h.ctl

/-! ### From the end of the transaction to the response -/

/-- The response reads only registers that Level T fixes. -/
theorem AfterTxnEnd.response (h : AfterTxnEnd s o u) : txnResponse u = txnResponse (endedAs o s u) := by
  have hout : txnResponse u = txnResponse (u.outsideOf s) := rfl
  rw [hout, h.registers]
  rfl

/-- The response after TXN_END makes the transaction the one of Level T. -/
theorem AfterTxnEnd.responds (h : AfterTxnEnd s o u) (hd : Undisturbed u) (hctl : u.ctl ≠ .idle) {tm : BitVec 16}
    (hw : w = { respond (txnResponse u) u with timer := tm, ctl := .idle }) :
    (endTick u w).outsideOf s = finishTxn o (endTick u w).scratch s := by
  have hout : w.outsideOf s = { respond (txnResponse u) (u.outsideOf s) with timer := tm, ctl := .idle } := by
    rw [hw]
    rfl
  rw [hd.outsideOf_endTick hctl, hout, h.registers, h.response, hw]
  rfl

/-- A tick that does not respond yet. -/
theorem AfterTxnEnd.goes_on (h : AfterTxnEnd s o u) {tm : BitVec 16} {c : Ctl}
    (hc : c = .postDelay ∨ (c = .classify ∧ u.mode = .detect)) : AfterTxnEnd s o { u with timer := tm, ctl := c } := by
  refine ⟨hc, ?_⟩
  have hout : { u with timer := tm, ctl := c }.outsideOf s = { u.outsideOf s with timer := tm, ctl := c } := rfl
  rw [hout, h.registers]
  rfl

/-- STATE is IDLE again, and the registers are those of the Level T transaction with the outcome `o`. -/
def FinishedAs (s : State) (o : TxnOutcome) (t : State) : Prop :=
  t.ctl = .idle ∧ t.outsideOf s = finishTxn o t.scratch s

theorem AfterTxnEnd.after_step (h : AfterTxnEnd s o u) (hd : Undisturbed u) (ht : step u = .next t) :
    AfterTxnEnd s o t ∨ FinishedAs s o t := by
  obtain ⟨w, hw, rfl⟩ := exists_blockStep_of_step hd.noReset ht
  rcases h.ctl with hctl | ⟨hctl, hm⟩
  · have hne : u.ctl ≠ .idle := by simp [hctl]
    cases (blockStep_of_postDelay hctl).symm.trans hw
    rcases postDelayTick_cases u with ⟨-, heq⟩ | ⟨-, hm, heq⟩ | ⟨-, hm, heq⟩ <;> rw [heq]
    · exact .inl ((h.goes_on (.inl hctl)).after_endTick hd hne)
    · have hresponse : txnResponse u = u.rxcount := by simp [txnResponse, hm]
      exact .inr ⟨rfl, h.responds hd hne (by rw [hresponse]; rfl)⟩
    · exact .inl ((h.goes_on (.inr ⟨rfl, hm⟩)).after_endTick hd hne)
  · cases (blockStep_of_classify hctl).symm.trans hw
    have hresponse : txnResponse u = classCode (detectResult u.rxcount.toNat u) := by simp [txnResponse, hm]
    exact .inr ⟨rfl, h.responds hd (by simp [hctl]) (by rw [hresponse]; rfl)⟩

/-! ### The run -/

/-- What every step from outside IDLE keeps holds where the run to IDLE ends. -/
theorem runToIdle_induction {P : State → Prop} (hstep : ∀ u v, u.ctl ≠ .idle → P u → step u = .next v → P v) {n : Nat}
    (hs : P s) (h : runToIdle n s = .next t) : P t := by
  induction n generalizing s with
  | zero =>
    cases h
    exact hs
  | succ n ih =>
    by_cases hidle : s.ctl = .idle
    · rw [runToIdle_of_idle hidle] at h
      cases h
      exact hs
    · rw [runToIdle, if_neg hidle] at h
      obtain ⟨u, hu, hrest⟩ := andThen_eq_next.mp h
      exact ih (hstep s u hidle hs hu) hrest

/-- Where the run from TXN_START in `s` can be: in the transaction, past its end, or finished as at Level T. -/
def OnTheWay (s u : State) : Prop :=
  InTransaction s u ∨ ∃ o, PossibleOutcome s o ∧ (AfterTxnEnd s o u ∨ FinishedAs s o u)

theorem OnTheWay.after_step (h : OnTheWay s u) (hd : Undisturbed u) (hctl : u.ctl ≠ .idle) (ht : step u = .next t) :
    OnTheWay s t := by
  rcases h with hin | ⟨o, ho, hafter | ⟨hidle, -⟩⟩
  · exact (hin.after_step hd ht).imp_right fun ⟨o, ho, hafter⟩ => ⟨o, ho, .inl hafter⟩
  · exact .inr ⟨o, ho, hafter.after_step hd ht⟩
  · exact absurd hidle hctl

/-- In IDLE the transaction is finished. -/
theorem OnTheWay.finished (h : OnTheWay s t) (hctl : t.ctl = .idle) :
    ∃ o d, PossibleOutcome s o ∧ t.outsideOf s = finishTxn o d s := by
  rcases h with hin | ⟨o, ho, hafter | ⟨-, hfin⟩⟩
  · simpa [hctl, txnPhase] using hin.ctl
  · rcases hafter.ctl with hc | ⟨hc, -⟩ <;> simp [hctl] at hc
  · exact ⟨o, t.scratch, ho, hfin⟩

/-- A transaction at Level L is one at Level T, with an outcome that it can come to. -/
theorem finishTxn_of_runToIdle {n : Nat} (hstart : AtTxnStart s) (hd : Undisturbed s) (h : runToIdle n s = .next t)
    (hctl : t.ctl = .idle) : ∃ o d, PossibleOutcome s o ∧ t.outsideOf s = finishTxn o d s := by
  have hrun : Undisturbed t ∧ OnTheWay s t :=
    runToIdle_induction (P := fun u => Undisturbed u ∧ OnTheWay s u)
      (fun u v hne ⟨hd, hway⟩ hv => ⟨hd.after_step hv, hway.after_step hd hne hv⟩)
      ⟨hd, .inl (inTransaction_of_txnStart hstart)⟩ h
  exact hrun.2.finished hctl

end

/-- Settles O41: every tick keeps the registers as Level T has them, the reply in WBUF as far as it has come. -/
theorem levelTAbstractsLevelL : Obligations.LevelTAbstractsLevelL := by
  intro s t n hinv hstart hreset hie hrun hctl
  obtain ⟨o, d, ⟨hlegal, -⟩, hout⟩ := finishTxn_of_runToIdle hstart ⟨hinv, hreset, hie⟩ hrun hctl
  exact ⟨o, d, hlegal, hout⟩

/-- Settles O42: without a device no edge comes, so the only outcome that the run can come to is Timeout. -/
theorem noDeviceTimesOut : Obligations.NoDeviceTimesOut := by
  intro s t n hinv hstart hreset hie hno hrun hctl
  obtain ⟨o, d, ⟨-, honly⟩, hout⟩ := finishTxn_of_runToIdle hstart ⟨hinv, hreset, hie⟩ hrun hctl
  exact ⟨d, honly hno ▸ hout⟩

end Sys2Proof.Machine
end

section
/-! EXEC_TXN at Level T (41_transaction.md R130, R131, R143, R150): one step with its DATA words and an outcome, and its faults
(60_exceptions.md R213). -/

namespace Sys2Proof.Machine

section

variable {s : State} {o : TxnOutcome} {d : ScratchDraws}

/-! ### Bytes of an array after a run of writes -/

theorem Memory.read_writeList_of_not {cap a b : Nat} {m : Memory} {vs : List Byte} (hm : m.wf cap = true)
    (hcap : a + vs.length ≤ cap) (hb : b < a ∨ a + vs.length ≤ b) : (m.writeList a vs).read b = m.read b := by
  induction vs generalizing a m with
  | nil => rfl
  | cons w ws ih =>
    simp only [List.length_cons] at hcap hb
    rw [Memory.writeList, ih (Memory.write_wf hm (by omega)) (by omega) (by omega), Memory.read_write_of_ne hm (by omega)]

theorem Memory.read_writeList_of_get {cap a i : Nat} {m : Memory} {vs : List Byte} {v : Byte} (hm : m.wf cap = true)
    (hcap : a + vs.length ≤ cap) (hv : vs[i]? = some v) : (m.writeList a vs).read (a + i) = v := by
  induction vs generalizing a i m with
  | nil => simp at hv
  | cons w ws ih =>
    simp only [List.length_cons] at hcap
    have hm' : (m.write a w).wf cap = true := Memory.write_wf hm (by omega)
    cases i with
    | zero =>
      obtain rfl : w = v := by simpa using hv
      rw [Memory.writeList, Memory.read_writeList_of_not hm' (by omega) (by omega), Memory.read_write hm]
      exact if_pos rfl
    | succ i =>
      have hshift : a + (i + 1) = a + 1 + i := by omega
      rw [Memory.writeList, hshift]
      exact ih hm' (by omega) (by simpa using hv)

/-- The bytes of a list written from address 0 up. -/
theorem Memory.read_writeList_zero {cap i : Nat} {m : Memory} {vs : List Byte} {v : Byte} (hm : m.wf cap = true)
    (hcap : vs.length ≤ cap) (hv : vs[i]? = some v) : (m.writeList 0 vs).read i = v := by
  have hget := Memory.read_writeList_of_get (a := 0) hm (by omega) hv
  rwa [Nat.zero_add] at hget

/-! ### Acceptance at Level T -/

/-- Every command goes through CHECK_CMD at Level T also. -/
theorem acceptT_eq_performCmd (i : Instr) (data : List Word) (d : ScratchDraws) (s : State) :
    ∃ body, acceptT i data d s = performCmd i s body := by
  cases i <;> exact ⟨_, by delta acceptT; rfl⟩

theorem stepT_of_decode {w : Word} {i : Instr} (hr : s.ready = true) (hd : decode w = .ok i) (data : List Word) :
    stepT w data o d s = onNext (acceptT i data d s) fun t => if t.ctl = .tx then finishTxn o d t else t := by
  simp [stepT, hr, hd]

theorem stepT_of_reject {w : Word} {e : Reject} (hr : s.ready = true) (hd : decode w = .error e) (data : List Word) :
    stepT w data o d s = .next (raiseFault (rejectCause e) w s) := by
  simp [stepT, hr, hd]

/-- The first failing check of a CMD word is the fault it takes at Level T. -/
theorem stepT_of_fault {w : Word} {c : FaultCause} (hr : s.ready = true) (hc : checkWord w s = some c) (data : List Word) :
    stepT w data o d s = .next (raiseFault c w s) := by
  cases hd : decode w with
  | error e =>
    rw [checkWord_of_reject hd, Option.some.injEq] at hc
    rw [stepT_of_reject hr hd, hc]
  | ok i =>
    rw [checkWord_of_decode hd] at hc
    obtain ⟨body, hbody⟩ := acceptT_eq_performCmd i data d s
    rw [stepT_of_decode hr hd, hbody, performCmd_of_fault hr hc, onNext_next, encode_of_decode hd]
    rfl

/-- An EXEC_TXN whose header passes takes its DATA words. -/
theorem stepT_execTxn {len : Nat} (hr : s.ready = true) (hcfg : s.cfg.wf = true) (hi : s.lineInit = true) (h1 : 1 ≤ len)
    (hcap : len ≤ s.cfg.txCap) (data : List Word) :
    stepT (encode (.execTxn len)) data o d s =
      onNext (takeData len d data 0 s) fun t => if t.ctl = .tx then finishTxn o d t else t := by
  have hb := Config.wf_bounds hcfg
  have hpass : checkCmd (.execTxn len) s = none := (checkCmd_execTxn_eq_none len s).mpr ⟨hi, h1, hcap⟩
  rw [stepT_of_decode hr (decode_encode (wf_execTxn_iff.mpr (by omega))), acceptT, startTxnT,
    performCmd_of_pass hr hpass]

/-- LEN good DATA words store their bytes and start the transaction. -/
theorem takeData_all {len : Nat} {bytes : List Byte} (hlen : bytes.length = len) (h1 : 1 ≤ len)
    (hcap : len ≤ s.cfg.txCap) : takeData len d (bytes.map fun b => b.setWidth 32) 0 s =
      .next (txnStart { s with
        txbuf := s.txbuf.writeList 0 bytes, mode := .execTxn, txlen := BitVec.ofNat 8 len }) := by
  rcases List.eq_nil_or_concat' bytes with rfl | ⟨init, last, rfl⟩
  · simp only [List.length_nil] at hlen
    omega
  · have hinit : 0 + init.length + 1 = len := by simpa using hlen
    rw [List.map_append, List.map_singleton, takeData_good init last [] hinit hcap, Memory.writeList_snoc]

/-! ### What an outcome leaves (41_transaction.md R150) -/

/-- The reply of an outcome. -/
def outcomeReply : TxnOutcome → List Byte
  | .timeout | .lineError => []
  | .ok r => r

theorem outcomeReply_length_le (h : outcomeLegal o = true) : (outcomeReply o).length ≤ Config.bufCap := by
  cases o with
  | timeout | lineError => exact Nat.zero_le _
  | ok r => exact (outcomeLegal_ok_iff.mp h).2

/-- The received count is the reply's length (41_transaction.md R143). -/
theorem normalizeRc_outcomeRc (h : outcomeLegal o = true) :
    normalizeRc (outcomeRc o) = BitVec.ofNat 8 (outcomeReply o).length := by
  cases o with
  | timeout | lineError => rfl
  | ok r =>
    obtain ⟨h1, h40⟩ := outcomeLegal_ok_iff.mp h
    obtain ⟨-, -, herr⟩ := toNat_ofNat_count h1 h40
    exact if_neg herr

/-- The DIAG of an outcome. -/
def outcomeDiag : TxnOutcome → Diag
  | .timeout => .timeout
  | .lineError => .lineError
  | .ok _ => .ok

theorem diagOf_outcomeRc (h : outcomeLegal o = true) : diagOf (outcomeRc o) = outcomeDiag o := by
  cases o with
  | timeout | lineError => rfl
  | ok r =>
    obtain ⟨h1, h40⟩ := outcomeLegal_ok_iff.mp h
    obtain ⟨-, hzero, herr⟩ := toNat_ofNat_count h1 h40
    exact (if_neg hzero).trans (if_neg herr)

/-- But for a line error the reply is written into WBUF, and nothing else (41_transaction.md R150). -/
theorem outcomeWbuf_of_ne_lineError (h : o ≠ .lineError) (d : ScratchDraws) (m : Memory) :
    outcomeWbuf o d m = m.writeList 0 (outcomeReply o) := by
  cases o with
  | timeout | ok => rfl
  | lineError => exact absurd rfl h

theorem finishTxn_wbuf (o : TxnOutcome) (d : ScratchDraws) (s : State) :
    (finishTxn o d s).wbuf = outcomeWbuf o d s.wbuf := rfl

theorem finishTxn_rxcount (o : TxnOutcome) (d : ScratchDraws) (s : State) :
    (finishTxn o d s).rxcount = normalizeRc (outcomeRc o) := rfl

theorem finishTxn_bufValid (o : TxnOutcome) (d : ScratchDraws) (s : State) :
    (finishTxn o d s).bufValid = decide (0 < (normalizeRc (outcomeRc o)).toNat) := rfl

/-- EXEC_TXN responds with the count (41_transaction.md R131). -/
theorem finishTxn_rspq_of_execTxn (hm : s.mode = .execTxn) :
    (finishTxn o d s).rspq = s.rspq ++ [(normalizeRc (outcomeRc o)).setWidth 32] := by
  simp only [finishTxn, scramble_rspq, respond_rspq, txnResponse, txnEnd_mode, release_mode, hm]
  rfl

end

/-- Settles O56: the CMD word's checks are those of `checkWord`, and the bytes before the bad DATA word are stored. -/
theorem levelTFaults : Obligations.LevelTFaults := by
  intro s o d hr
  refine ⟨fun w data c hc => stepT_of_fault hr hc data, fun len bytes bad rest hi hcfg hcap hlen hbad => ?_⟩
  rw [stepT_execTxn hr hcfg hi (by omega) hcap, takeData_bad bytes rest (by omega) hcap hbad]
  rfl

/-- Settles O44: the DATA words start the transaction, and the outcome gives the count, DIAG and WBUF. -/
theorem levelTExecTxn : Obligations.LevelTExecTxn := by
  intro s o d bytes hinv hr hi h1 hcap ho reply
  have hreply : reply = outcomeReply o := by cases o <;> rfl
  have hq : s.rspq = [] := ((ready_iff s).mp hr).2
  have hb := Config.wf_bounds hinv.config
  have hle := outcomeReply_length_le ho
  have h40 : (outcomeReply o).length ≤ 40 := hle
  have hcount : (normalizeRc (outcomeRc o)).toNat = (outcomeReply o).length := by
    rw [normalizeRc_outcomeRc ho]
    exact Nat.mod_eq_of_lt (by omega)
  rw [hreply, stepT_execTxn hr hinv.config hi h1 hcap, takeData_all rfl h1 hcap, onNext_next, if_pos (txnStart_ctl _)]
  refine ⟨_, rfl, rfl, rfl, hi, rfl, rfl, rfl, ?_, ?_, ?_, ?_, ?_, ?_, ?_, ?_, ?_⟩
  · rw [finishTxn_rspq_of_execTxn rfl, txnStart_rspq, hq, List.nil_append, ← BitVec.ofNat_toNat, hcount]
  · rw [finishTxn_rxcount, hcount]
  · rw [finishTxn_bufValid, hcount, decide_eq_true_iff, List.length_pos_iff]
  · exact (diagOf_outcomeRc ho).trans (by cases o <;> rfl)
  · exact Nat.mod_eq_of_lt (by omega)
  · exact fun i v => Memory.read_writeList_zero hinv.txbufForm hcap
  · exact fun i hlen => Memory.read_writeList_of_not hinv.txbufForm (by omega) (by omega)
  · intro i v hv
    have hne : o ≠ .lineError := by rintro rfl; simp [outcomeReply] at hv
    rw [State.wbufByte, finishTxn_wbuf, outcomeWbuf_of_ne_lineError hne]
    exact Memory.read_writeList_zero hinv.wbufForm hle hv
  · intro hne i hlen
    rw [State.wbufByte, finishTxn_wbuf, outcomeWbuf_of_ne_lineError hne]
    exact Memory.read_writeList_of_not hinv.wbufForm (by omega) (by omega)

end Sys2Proof.Machine
end

section
/-! The work-buffer reader (42_buffer.md R172-R178): the cause of a read that faults, the words of one that is performed,
and a run of bytes as its single reads. -/

namespace Sys2Proof.Machine

section

variable {s t : State} {off n : Nat} {i : Instr}

/-! ### The checks of a read -/

theorem checkRead_of_misaligned (h : off % 8 ≠ 0) : checkRead off n s = some .misalignedOffset := by
  simp [checkRead, aligned, h]

theorem checkRead_of_beyond (h : off % 8 = 0) (hn : 1 ≤ n) (hcap : off / 8 + n > Config.bufCap) :
    checkRead off n s = some .outOfRange := by
  have hne : n ≠ 0 := by omega
  simp only [checkRead, aligned, byteIndex, h, hne, hcap, beq_self_eq_true, Bool.true_eq_false, if_true, if_false]

theorem checkRead_of_stale (h : off % 8 = 0) (hn : 1 ≤ n) (hcap : off / 8 + n ≤ Config.bufCap)
    (hstale : s.bufValid = false ∨ off / 8 + n > s.rxcount.toNat) : checkRead off n s = some .staleRead := by
  have hne : n ≠ 0 := by omega
  simp only [checkRead, aligned, byteIndex, h, hne, not_lt.mpr hcap, hstale, beq_self_eq_true, Bool.true_eq_false,
    if_true, if_false, gt_iff_lt]

/-- A run passes exactly when each of its bytes does: the last byte has the highest bound (42_buffer.md R177). -/
theorem checkRead_run_eq_none_iff (k : Nat) (hn : 1 ≤ n) :
    checkRead (8 * k) n s = none ↔ ∀ j, j < n → checkRead (8 * (k + j)) 1 s = none := by
  simp only [checkRead_eq_none]
  constructor
  · rintro ⟨-, hrun⟩ j hj
    obtain ⟨hcap, hv, hcount⟩ := hrun.resolve_left (by omega)
    exact ⟨by omega, .inr ⟨by omega, hv, by omega⟩⟩
  · intro hsingle
    obtain ⟨-, hlast⟩ := hsingle (n - 1) (by omega)
    obtain ⟨hcap, hv, hcount⟩ := hlast.resolve_left (by omega)
    exact ⟨by omega, .inr ⟨by omega, hv, by omega⟩⟩

/-! ### A read at the port -/

theorem Memory.readList_eq_map_range (m : Memory) (a n : Nat) :
    m.readList a n = (List.range n).map fun j => m.read (a + j) := by
  induction n generalizing a with
  | zero => rfl
  | succ n ih =>
    rw [Memory.readList, ih, List.range_succ_eq_map, List.map_cons, List.map_map]
    simp [Function.comp_def, Nat.add_assoc, Nat.add_comm 1]

theorem exec_readByte_of_pass (hr : s.ready = true) (hc : checkCmd (.readByte off) s = none) :
    exec (.readByte off) s = .next { s with rspq := [(s.wbufByte (off / 8)).setWidth 32] } := by
  simp only [exec, execReadByte, performCmd_of_pass hr hc, respond, ((ready_iff s).mp hr).2, List.nil_append, byteIndex]

theorem exec_readBytes_of_pass (hr : s.ready = true) (hc : checkCmd (.readBytes off n) s = none) :
    exec (.readBytes off n) s =
      .next { s with rspq := (List.range n).map fun j => (s.wbufByte (off / 8 + j)).setWidth 32 } := by
  simp only [exec, execReadBytes, performCmd_of_pass hr hc, respondAll_eq, ((ready_iff s).mp hr).2, List.nil_append,
    byteIndex, Memory.readList_eq_map_range, List.map_map]
  rfl

/-- The two read commands. -/
def IsRead (i : Instr) : Prop := ∃ off n, i = .readByte off ∨ i = .readBytes off n

/-- What a read does in a ready state: it faults, or it passes its checks and changes RSPQ alone. -/
theorem exec_read_cases (hi : IsRead i) (hr : s.ready = true) :
    (∃ c, checkCmd i s = some c ∧ exec i s = .next (raiseFault c (encode i) s)) ∨
    (checkCmd i s = none ∧ ∃ q, exec i s = .next { s with rspq := q }) := by
  cases hc : checkCmd i s with
  | some c => exact .inl ⟨c, rfl, exec_of_fault hr hc⟩
  | none =>
    obtain ⟨off, n, rfl | rfl⟩ := hi
    · exact .inr ⟨rfl, _, exec_readByte_of_pass hr hc⟩
    · exact .inr ⟨rfl, _, exec_readBytes_of_pass hr hc⟩

theorem read_performed_iff (hi : IsRead i) (hr : s.ready = true) :
    (∃ t, exec i s = .next t ∧ t.ctl = .idle) ↔ checkCmd i s = none := by
  have hidle := ((ready_iff s).mp hr).1
  rcases exec_read_cases hi hr with ⟨c, hc, heq⟩ | ⟨hc, q, heq⟩
  · simp [heq, hc]
  · simp [heq, hc, hidle]

theorem read_faulted_iff (hi : IsRead i) (hr : s.ready = true) :
    (∃ t, exec i s = .next t ∧ t.ctl = .faulted) ↔ ¬ checkCmd i s = none := by
  have hidle := ((ready_iff s).mp hr).1
  rcases exec_read_cases hi hr with ⟨c, hc, heq⟩ | ⟨hc, q, heq⟩
  · simp [heq, hc]
  · simp [heq, hc, hidle]

end

/-- Settles O13: the three checks pass, and a ready block's RSPQ is empty before the byte is appended. -/
theorem readByteCompletes : Obligations.ReadByteCompletes := by
  intro s off hr ha hcap hv hcount
  exact exec_readByte_of_pass hr ((checkRead_eq_none off 1 s).mpr ⟨ha, .inr ⟨hcap, hv, hcount⟩⟩)

/-- Settles O14: the checks pass, and the run's words are the bytes of WBUF by rising index. -/
theorem readBytesCompletes : Obligations.ReadBytesCompletes := by
  intro s off n hr ha hrun
  exact exec_readBytes_of_pass hr ((checkRead_eq_none off n s).mpr ⟨ha, hrun⟩)

/-- Settles O17: both reads make the one check `checkRead`, READ_BYTE with n = 1. -/
theorem readFaults : Obligations.ReadFaults := by
  intro s off n i hr hi
  have hcheck : checkCmd i s = checkRead off n s := by rcases hi with rfl | ⟨rfl, rfl⟩ <;> rfl
  refine ⟨fun ha => ?_, fun ha hn hcap => ?_, fun ha hn hcap hstale => ?_⟩
  · exact exec_of_fault hr (hcheck.trans (checkRead_of_misaligned ha))
  · exact exec_of_fault hr (hcheck.trans (checkRead_of_beyond ha hn hcap))
  · exact exec_of_fault hr (hcheck.trans (checkRead_of_stale ha hn hcap hstale))

/-- Settles O35: a read is performed or faults as its check says, and the run's check is that of all its bytes. -/
theorem runEqualsSingles : Obligations.RunEqualsSingles := by
  intro s k n hr hn
  have hrun : checkCmd (.readBytes (8 * k) n) s = none ↔ ∀ j, j < n → checkCmd (.readByte (8 * (k + j))) s = none :=
    checkRead_run_eq_none_iff k hn
  have isRun : IsRead (.readBytes (8 * k) n) := ⟨_, _, .inr rfl⟩
  have isSingle (j : Nat) : IsRead (.readByte (8 * (k + j))) := ⟨_, n, .inl rfl⟩
  simp only [read_performed_iff isRun hr, read_performed_iff (isSingle _) hr, read_faulted_iff isRun hr,
    read_faulted_iff (isSingle _) hr]
  refine ⟨hrun, fun t ht hidle j hj => ?_, ?_, fun hv hk hcap => ⟨exec_of_fault hr ?_, exec_of_fault hr ?_⟩⟩
  · have hpass := (read_performed_iff isRun hr).mp ⟨t, ht, hidle⟩
    cases (exec_readBytes_of_pass hr hpass).symm.trans ht
    refine ⟨(s.wbufByte (k + j)).setWidth 32, ?_, ?_⟩
    · simp [hj]
    · rw [exec_readByte_of_pass hr (hrun.mp hpass j hj), Nat.mul_div_cancel_left _ (by omega)]
  · simp only [hrun, not_forall, exists_prop]
  · exact checkRead_of_beyond (by omega) hn (by omega)
  · exact checkRead_of_stale (by omega) le_rfl (by omega) (.inl hv)

/-- Settles O36: a performed read writes RSPQ alone, so draining RSPQ gives back the state before it. -/
theorem readsArePure : Obligations.ReadsArePure := by
  intro s t i off n hi hr ht hidle
  have hq := ((ready_iff s).mp hr).2
  rcases exec_read_cases ⟨off, n, hi⟩ hr with ⟨c, -, heq⟩ | ⟨-, q, heq⟩
  · cases heq.symm.trans ht
    cases hidle
  · cases heq.symm.trans ht
    have hdrained : { s with rspq := [] } = s := by rw [← hq]
    exact ⟨rfl, hdrained.symm ▸ heq⟩

end Sys2Proof.Machine
end

section
/-! The packed layout (42_buffer.md R170, R171): what SHIFT, NBITS and WBUF hold after a list of packed bits. -/

namespace Sys2Proof.Machine

section

variable {s u : State} {bits : List Bool}

/-- The new bit comes in at the low end. -/
theorem getLsbD_shiftIn (sh : Byte) (b : Bool) {j : Nat} (hj : j < 8) :
    (shiftIn sh b).getLsbD j = if j = 0 then b else sh.getLsbD (j - 1) := by
  rw [shiftIn, BitVec.getLsbD_or, BitVec.getLsbD_shiftLeft, BitVec.getLsbD_setWidth, BitVec.getLsbD_ofBool]
  by_cases h0 : j = 0
  · simp [h0]
  · have h1 : ¬ j < 1 := by omega
    simp only [hj, h0, h1, decide_true, decide_false, if_false, Bool.not_false, Bool.true_and, Bool.false_and,
      Bool.and_false, Bool.or_false]

/-- The registers of the bit-packer after `bits`, the first of them the first bit of a receive. -/
structure Packed (bits : List Bool) (u : State) : Prop where
  count : u.nbits.toNat = bits.length
  form : u.wbuf.wf Config.bufCap = true
  /-- SHIFT holds the last eight bits, the newest at the low end. -/
  recent : ∀ j, j < 8 → j < bits.length → u.shift.getLsbD j = bits.getD (bits.length - 1 - j) false
  /-- WBUF holds the bits of the whole bytes, the first at the high end (42_buffer.md R171). -/
  stored : ∀ k, k < 8 * min (bits.length / 8) Config.bufCap →
    (u.wbufByte (k / 8)).getLsbD (7 - k % 8) = bits.getD k false

theorem packed_nil (hbits : s.nbits = 0#16) (hform : s.wbuf.wf Config.bufCap = true) : Packed [] s where
  count := by simp [hbits]
  form := hform
  recent := by simp
  stored := by simp

/-- SHIFT after one more bit. -/
theorem Packed.recent_shiftIn (h : Packed bits u) (b : Bool) {j : Nat} (hj : j < 8) (hlen : j ≤ bits.length) :
    (shiftIn u.shift b).getLsbD j = (bits ++ [b]).getD (bits.length - j) false := by
  rw [getLsbD_shiftIn _ _ hj]
  split
  · next h0 => simp [h0]
  · next h0 =>
    rw [h.recent (j - 1) (by omega) (by omega), List.getD_append _ _ _ _ (by omega)]
    congr 1
    omega

/-- WBUF after one more bit: the bit completes a byte that is stored, or no byte is added. -/
theorem Packed.stored_packBit (h : Packed bits u) (b : Bool) {k : Nat}
    (hk : k < 8 * min ((bits.length + 1) / 8) Config.bufCap) :
    ((packBit b u).wbufByte (k / 8)).getLsbD (7 - k % 8) = (bits ++ [b]).getD k false := by
  have hold (hlt : k < 8 * min (bits.length / 8) Config.bufCap) :
      (u.wbuf.read (k / 8)).getLsbD (7 - k % 8) = (bits ++ [b]).getD k false := by
    rw [List.getD_append _ _ _ _ (by omega)]
    exact h.stored k hlt
  rw [State.wbufByte, packBit_wbuf, h.count]
  split
  · next hbyte =>
    rw [Memory.read_write h.form]
    split
    · next hlast =>
      rw [h.recent_shiftIn b (by omega) (by omega)]
      congr 1
      omega
    · next hother => exact hold (by omega)
  · next hbyte => exact hold (by omega)

theorem Packed.after_packBit (h : Packed bits u) (b : Bool) (hlen : bits.length < Config.nbitsMax) :
    Packed (bits ++ [b]) (packBit b u) := by
  have hmax : Config.nbitsMax = 322 := rfl
  have hcount := h.count
  refine ⟨?_, packBit_wbuf_wf h.form, fun j hj hjlen => ?_, fun k hk => ?_⟩
  · rw [packBit_eq, List.length_append, ← hcount]
    exact Nat.mod_eq_of_lt (by omega)
  · rw [List.length_append, List.length_singleton] at hjlen ⊢
    rw [packBit_eq, Nat.add_sub_cancel]
    exact h.recent_shiftIn b hj (by omega)
  · rw [List.length_append, List.length_singleton] at hk
    exact h.stored_packBit b hk

theorem packed_foldl_packBit (hbits : s.nbits = 0#16) (hform : s.wbuf.wf Config.bufCap = true)
    (hlen : bits.length ≤ Config.nbitsMax) : Packed bits (bits.foldl (fun t b => packBit b t) s) := by
  induction bits using List.reverseRecOn with
  | nil => exact packed_nil hbits hform
  | append_singleton bits b ih =>
    rw [List.length_append, List.length_singleton] at hlen
    rw [List.foldl_concat]
    exact (ih (by omega)).after_packBit b (by omega)

end

/-- Settles O34, by induction on the list from its last bit, with SHIFT and NBITS in the invariant. -/
theorem packedLayout : Obligations.PackedLayout :=
  fun _ _ hbits hform hlen => (packed_foldl_packBit hbits hform hlen).stored

end Sys2Proof.Machine
end

section
/-! The classifier (43_classifier.md R190-R195, R199): the class of an identifier by its two bytes, DETECT at the port, CLASSIFY's
response, and DETECT at Level T. -/

namespace Sys2Proof.Machine

section

variable {s : State}

/-! ### CLASSIFY_ID of two bytes (43_classifier.md R190, R195) -/

theorem joinBytes_eq_append (hi lo : Byte) : joinBytes hi lo = hi ++ lo := by
  rw [← BitVec.setWidth_eq (hi ++ lo), BitVec.setWidth_append_eq_shiftLeft_setWidth_or]
  rfl

/-- The class goes by the high byte, and below 0x08 by the low byte also. -/
theorem classifyId_joinBytes (hi lo : Byte) : classifyId (joinBytes hi lo) =
    if hi = 0x05#8 then .n64
    else if hi = 0x09#8 ∨ hi = 0x0B#8 then .gc
    else if hi = 0x08#8 then if lo = 0x20#8 then .gcKeyboard else .gc
    else .unknown := by
  have htop : (joinBytes hi lo).extractLsb' 8 8 = hi := by
    rw [joinBytes_eq_append, BitVec.extractLsb'_append_eq_left]
  have hkeyboard (h : hi = 0x08#8) : joinBytes hi lo = 0x0820#16 ↔ lo = 0x20#8 := by
    rw [joinBytes_eq_append, h]
    exact BitVec.append_right_inj (t₂ := 0x20#8) 0x08#8
  simp only [classifyId, htop]
  by_cases h8 : hi = 0x08#8
  · simp only [hkeyboard h8]
  · simp only [h8, if_false]

/-! ### DETECT_RESULT (43_classifier.md R191) -/

theorem detectResult_of_wrong_count {n : Nat} (h0 : n ≠ 0) (h3 : n ≠ 3) : detectResult n s = .unknown := by
  simp [detectResult, h0, h3, Config.idReplyLen]

theorem detectResult_three (s : State) :
    detectResult 3 s = if s.cfg.forceKb then .gcKeyboard else classifyId s.identifier := rfl

/-! ### DETECT at the port (43_classifier.md R192) -/

/-- An initialised block with room for the identify command starts the transaction. -/
theorem exec_detect_of_ready (hr : s.ready = true) (hi : s.lineInit = true) (hcfg : s.cfg.wf = true) : exec .detect s =
    .next (txnStart { s with txbuf := s.txbuf.write 0 s.cfg.idCmd, txlen := 1#8, mode := .detect }) := by
  have hb := Config.wf_bounds hcfg
  have hpass : checkCmd .detect s = none := by simp [checkCmd, checkInit, hi]
  rw [exec, execDetect, performCmd_of_pass hr hpass, putTxbuf_of_lt (by omega)]
  rfl

/-! ### DETECT at Level T (41_transaction.md R150, 43_classifier.md R193) -/

variable {o : TxnOutcome} {d : ScratchDraws}

theorem stepT_detect (hr : s.ready = true) (hi : s.lineInit = true) (hcfg : s.cfg.wf = true) (data : List Word) :
    stepT (encode .detect) data o d s = .next (finishTxn o d
      (txnStart { s with txbuf := s.txbuf.write 0 s.cfg.idCmd, txlen := 1#8, mode := .detect })) := by
  have haccept : acceptT .detect data d s = exec .detect s := rfl
  rw [stepT_of_decode hr (decode_encode rfl), haccept, exec_detect_of_ready hr hi hcfg, onNext_next,
    if_pos (txnStart_ctl _)]

/-- DETECT responds with DETECT_RESULT of what the transaction leaves (43_classifier.md R191). -/
theorem finishTxn_rspq_of_detect (hm : s.mode = .detect) : (finishTxn o d s).rspq = s.rspq ++
    [(classCode (detectResult (finishTxn o d s).rxcount.toNat (finishTxn o d s))).setWidth 32] := by
  simp only [finishTxn, scramble_rspq, respond_rspq, txnResponse, txnEnd_mode, release_mode, hm]
  rfl

/-- The count is that of the reply, which a legal outcome keeps below the register's bound (41_transaction.md R143). -/
theorem toNat_normalizeRc_outcomeRc (h : outcomeLegal o = true) :
    (normalizeRc (outcomeRc o)).toNat = (outcomeReply o).length := by
  have h40 : (outcomeReply o).length ≤ 40 := outcomeReply_length_le h
  rw [normalizeRc_outcomeRc h]
  exact Nat.mod_eq_of_lt (by omega)

/-- A reply of three bytes leaves its first two as the identifier (43_classifier.md R195). -/
theorem identifier_of_reply {m : Memory} {hi lo x : Byte} (hm : m.wf Config.bufCap = true)
    (hw : s.wbuf = m.writeList 0 [hi, lo, x]) : s.identifier = joinBytes hi lo := by
  have hcap : [hi, lo, x].length ≤ Config.bufCap := (by decide : 3 ≤ Config.bufCap)
  rw [State.identifier, State.wbufByte, State.wbufByte, hw, Memory.read_writeList_zero (i := 0) hm hcap rfl,
    Memory.read_writeList_zero (i := 1) hm hcap rfl]

end

/-- Settles O31: the two bytes fix the branch of CLASSIFY_ID. -/
theorem classifierTable : Obligations.ClassifierTable := by
  intro hi lo c
  have hc : c = classCode (classifyId (joinBytes hi lo)) := rfl
  rw [hc, classifyId_joinBytes]
  refine ⟨?_, ?_, ?_, ?_, fun h5 h8 h9 hB => ?_⟩
  · rintro rfl
    rfl
  · rintro rfl rfl
    rfl
  · rintro rfl hlo
    simp [hlo, classCode]
  · rintro (rfl | rfl) <;> rfl
  · simp [h5, h8, h9, hB, classCode]

/-- Settles O15: the checks pass, and TXBUF has a byte 0. -/
theorem detectCompletes : Obligations.DetectCompletes :=
  fun _ hr hi hcfg => exec_detect_of_ready hr hi hcfg

/-- Settles O21: DETECT is turned away, faults, or starts the transaction, with one write of TXBUF, at byte 0. -/
theorem frameOfDetect : Obligations.FrameOfDetect := by
  intro s t hform h
  rcases exec_detect_next h with ⟨-, rfl⟩ | ⟨-, -, rfl⟩ | ⟨-, -, -, rfl⟩
  · exact ⟨fun _ => rfl, fun _ _ => rfl, rfl⟩
  · exact ⟨fun _ => rfl, fun _ _ => rfl, rfl⟩
  · exact ⟨fun _ => rfl, fun _ ha => Memory.read_write_of_ne hform ha, rfl⟩

/-- Settles O30: CLASSIFY's tick responds with DETECT_RESULT of RXCOUNT. -/
theorem Classifier.classifyTick : Obligations.ClassifyTick := by
  intro s hctl
  refine ⟨classCode (detectResult s.rxcount.toNat s), blockStep_of_classify hctl, fun h0 => ?_, fun h0 h3 => ?_,
    fun h3 hkb => ?_, fun h3 hkb => ?_⟩
  · rw [h0]
    rfl
  · rw [detectResult_of_wrong_count (by bv_omega) (by bv_omega)]
    rfl
  · have hn : s.rxcount.toNat = 3 := congrArg BitVec.toNat h3
    rw [hn, detectResult_three, hkb]
    rfl
  · have hn : s.rxcount.toNat = 3 := congrArg BitVec.toNat h3
    rw [hn, detectResult_three, hkb]
    rfl

/-- Settles O45: the response is DETECT_RESULT of the reply's length, and its first two bytes are the identifier. -/
theorem levelTDetect : Obligations.LevelTDetect := by
  intro s o d hr hi hcfg hform ho
  refine ⟨_, stepT_detect hr hi hcfg [], rfl, rfl, rfl, rfl, rfl, ?_⟩
  have hq : s.rspq = [] := ((ready_iff s).mp hr).2
  rw [finishTxn_rspq_of_detect rfl, finishTxn_rxcount, toNat_normalizeRc_outcomeRc ho, txnStart_rspq, hq, List.nil_append]
  cases o with
  | timeout | lineError => rfl
  | ok r =>
    obtain ⟨h1, -⟩ := outcomeLegal_ok_iff.mp ho
    rw [outcomeReply]
    by_cases h3 : r.length = 3
    · obtain ⟨hi, lo, x, rfl⟩ := List.length_eq_three.mp h3
      rw [h3, detectResult_three, identifier_of_reply hform rfl]
      rfl
    · rw [detectResult_of_wrong_count (by omega) h3]
      split
      · next hr => cases hr; exact absurd rfl h3
      · rfl
      · next hr => cases hr
      · next hr => cases hr

end Sys2Proof.Machine
end

section
/-! Faults and progress (60_exceptions.md R210-R217): the block's transition always exists, it enters FAULTED on an accepted word
alone, and FAULTED keeps everything. -/

namespace Sys2Proof.Machine

section

variable {s u : State}

/-! ### Progress -/

/-- A command that passes its checks is performed. -/
theorem exists_exec_of_pass {i : Instr} (hr : s.ready = true) (hcfg : s.cfg.wf = true) (hc : checkCmd i s = none) :
    ∃ u, exec i s = .next u := by
  cases i with
  | initLine => exact ⟨_, exec_initLine_of_ready hr⟩
  | execTxn len => exact ⟨_, exec_execTxn_of_pass hr hc⟩
  | readByte off => exact ⟨_, exec_readByte_of_pass hr hc⟩
  | readBytes off n => exact ⟨_, exec_readBytes_of_pass hr hc⟩
  | detect =>
    have hi : s.lineInit = true := by
      by_contra hi
      simp [checkCmd, checkInit, hi] at hc
    exact ⟨_, exec_detect_of_ready hr hi hcfg⟩

theorem exists_acceptWord_of_ready (hr : s.ready = true) (hcfg : s.cfg.wf = true) (w : Word) :
    ∃ u, acceptWord w s = .next u := by
  cases hc : checkWord w s with
  | some c => exact ⟨_, acceptWord_of_fault hr hc⟩
  | none =>
    obtain ⟨i, -, hpass, heq⟩ := acceptWord_of_pass (by simp [((ready_iff s).mp hr).1]) hc
    rw [heq]
    exact exists_exec_of_pass hr hcfg hpass

/-- In LOAD the next byte has its place in TXBUF (41_transaction.md R134). -/
theorem BlockInv.exists_loadWord (h : BlockInv s) (hctl : s.ctl = .load) (w : Word) : ∃ u, loadWord w s = .next u := by
  by_cases hd : dataRsv w = 0#24
  · exact ⟨_, loadWord_of_good hd ((h.line.loading hctl).1.trans_le (h.length (.inl hctl)))⟩
  · exact ⟨_, loadWord_of_bad hd⟩

theorem BlockInv.exists_acceptWord (h : BlockInv s) {w : Word} (ha : s.accepted = some w) :
    ∃ u, acceptWord w s = .next u := by
  obtain ⟨-, -, hr | hctl⟩ := accepted_ready ha
  · exact exists_acceptWord_of_ready hr h.config w
  · rw [acceptWord_of_load hctl]
    exact h.exists_loadWord hctl w

theorem BlockInv.exists_blockTick (h : BlockInv s) (ha : s.accepted = none) : ∃ u, blockTick s = .next u := by
  rw [← blockStep_of_not_accepted ha]
  cases hctl : s.ctl with
  | idle => exact ⟨_, blockStep_of_waiting ha (.inl hctl)⟩
  | load => exact ⟨_, blockStep_of_waiting ha (.inr (.inl hctl))⟩
  | faulted => exact ⟨_, blockStep_of_waiting ha (.inr (.inr hctl))⟩
  | postDelay => exact ⟨_, blockStep_of_postDelay hctl⟩
  | classify => exact ⟨_, blockStep_of_classify hctl⟩
  | tx | txStop | rxWait | rxBit | rxGap =>
    obtain ⟨u, hu, -⟩ := h.exists_blockStep_of_txnPhase (by rw [hctl]; rfl)
    exact ⟨u, hu⟩

theorem BlockInv.exists_blockStep (h : BlockInv s) : ∃ u, blockStep s = .next u := by
  cases ha : s.accepted with
  | some w =>
    rw [blockStep_of_accepted ha]
    exact h.exists_acceptWord ha
  | none =>
    rw [blockStep_of_not_accepted ha]
    exact h.exists_blockTick ha

/-! ### Entering FAULTED -/

/-- The block enters FAULTED by fault entry alone, on a word it accepts (60_exceptions.md R214, R217). -/
theorem blockStep_enters_faulted (h : blockStep s = .next u) (hs : s.ctl ≠ .faulted) (hu : u.ctl = .faulted) :
    ∃ w c, s.accepted = some w ∧ (s.ctl = .idle ∨ s.ctl = .load) ∧ c ≠ .none ∧ u = raiseFault c w s := by
  rcases blockStep_effects h with ⟨-, -, rfl⟩ | hfault | ⟨-, -, rfl⟩ | ⟨w, len, -, -, -, -, -, rfl⟩ |
    ⟨w, q, -, -, -, rfl⟩ | ⟨w, -, -, -, -, rfl⟩ | ⟨w, -, hctl, -, rfl⟩ | ⟨hctl, -, rfl⟩ | ⟨hctl, rfl⟩ | ⟨hctl, rfl⟩ |
    ⟨hctl, rfl⟩ | ⟨hctl, rfl⟩ | ⟨hctl, rfl⟩ | ⟨-, rfl⟩
  · exact absurd hu hs
  · exact hfault
  · exact absurd hu hs
  · cases hu
  · exact absurd hu hs
  · cases hu
  · rw [loadAdvance_ctl] at hu
    · split_ifs at hu
    · exact hctl
  · rw [txAdvance_ctl_eq hctl] at hu
    split_ifs at hu
  · rw [txStopTick_ctl hctl] at hu
    split_ifs at hu
  · rw [rxWaitTick_ctl hctl] at hu
    split_ifs at hu
  · rw [rxBitTick_ctl hctl] at hu
    split_ifs at hu
  · rw [rxGapTick_ctl hctl] at hu
    split_ifs at hu
  · rw [postDelayTick_ctl hctl] at hu
    split_ifs at hu
  · cases hu

/-! ### In FAULTED -/

theorem step_of_faulted (hr : s.rstNow = false) (hctl : s.ctl = .faulted) : step s = .next (endTick s s) := by
  have ha : s.accepted = none := accepted_none_of_ctl (by simp [hctl]) (by simp [hctl])
  rw [step_of_not_rst hr, blockStep_of_waiting ha (.inr (.inr hctl)), onNext_next]

theorem cmdReady_of_faulted (hctl : s.ctl = .faulted) : s.cmdReady = false := by
  simp [State.cmdReady, State.ready, hctl]

/-- With RSPQ empty a tick in which the block does nothing keeps every register but IE. -/
theorem endTick_self_of_rspq_nil (hq : s.rspq = []) : endTick s s =
    { s with
      ie := ieAfter s s, rst := s.rst.tail, host := hostAfter s, bus := busAfter s.bus, tick := s.tick + 1 } := by
  simp [endTick, pops_of_rspq_nil hq]

end

/-- Settles O16: a rejected word and a command whose check fails report what `checkWord` finds; the rest is performed. -/
theorem checkOrder : Obligations.CheckOrder := by
  refine fun w s => ⟨fun hctl hd => ?_, fun hr c hc => acceptWord_of_fault hr hc, fun hr hc => ?_⟩
  · rw [acceptWord_of_load hctl]
    exact loadWord_of_bad hd
  · exact acceptWord_of_pass (by simp [((ready_iff s).mp hr).1]) hc

/-- Settles O49: the invariant keeps LOADCNT and TXIDX inside TXBUF, so the block's transition never stops. -/
theorem stepsNeverStop : Obligations.StepsNeverStop := by
  intro s h
  cases hr : s.rstNow with
  | true => exact ⟨_, step_of_rst hr⟩
  | false =>
    obtain ⟨u, hu⟩ := h.exists_blockStep
    rw [step_of_not_rst hr, hu]
    exact ⟨_, onNext_next _ _⟩

/-- Settles O51: in FAULTED the block does nothing, RSPQ has nothing to pop, and the host's word is not accepted. -/
theorem faultedIsQuiescent : Obligations.FaultedIsQuiescent := by
  intro s h hctl
  have hready := cmdReady_of_faulted hctl
  have hq : s.rspq = [] := h.drained (by simp [hctl])
  refine ⟨hready, hq, fun hr => ⟨_, step_of_faulted hr hctl, endTick_self_of_rspq_nil hq, rfl, rfl, fun hw => ?_⟩,
    fun t ht hne => ?_⟩
  · obtain ⟨w, hw⟩ := Option.isSome_iff_exists.mp hw
    exact cmdAfter_of_not_ready hw hready
  · by_contra hr
    rw [step_of_faulted (Bool.eq_false_iff.mpr hr) hctl] at ht
    cases ht
    exact hne hctl

/-- Settles O52: reset leaves IDLE, and the tick's end leaves what fault entry wrote. -/
theorem faultsOnlyOnAcceptedWords : Obligations.FaultsOnlyOnAcceptedWords := by
  intro s t ht hf hs
  rcases step_cases ht with ⟨-, rfl⟩ | ⟨-, u, hu, rfl⟩
  · cases hf
  · obtain ⟨w, c, ha, hctl, hc, rfl⟩ := blockStep_enters_faulted hu hs hf
    exact ⟨hctl, ha, hc, fun hie => ieAfter_of_ieUntouched hie _⟩

end Sys2Proof.Machine
end

section
/-! Reset (70_reset_and_hazards.md R240, R243): what the ports and the step do in a reset tick, and INIT_LINE after it. -/

namespace Sys2Proof.Machine

section

variable {s : State}

/-! ### The ports in a reset tick (70_reset_and_hazards.md R240) -/

theorem cmdReady_of_rst (h : s.rstNow = true) : s.cmdReady = false := by
  simp [State.cmdReady, h]

theorem rspValid_of_rst (h : s.rstNow = true) : s.rspValid = false := by
  simp [State.rspValid, h]

/-! ### A reset state (10_state.md R50) -/

/-- A reset state takes a CMD word at once: it is in IDLE with nothing to respond (10_state.md R43). -/
theorem ready_resetBlock (d : ResetDraws) (s : State) : (resetBlock d s).ready = true :=
  (ready_iff _).mpr ⟨resetBlock_ctl s d, resetBlock_rspq s d⟩

end

/-- Settles O8: rst holds both ports at 0, and the step is RESET_TICK, a reset state for the tick's free draws. -/
theorem resetBeatsEverything : Obligations.ResetBeatsEverything := by
  intro s hr
  obtain ⟨d, -, -, hreset⟩ := resetTick_draws s
  exact ⟨cmdReady_of_rst hr, rspValid_of_rst hr, d, by rw [step_of_rst hr, hreset]⟩

/-- Settles O9: a reset state is ready, so INIT_LINE is performed, and STATUS then shows LINE_INIT and FORCE_KB alone. -/
theorem statusAfterBoot : Obligations.StatusAfterBoot :=
  fun d s => ⟨_, exec_initLine_of_ready (ready_resetBlock d s), status_initLine_resetBlock d s⟩

end Sys2Proof.Machine
end
